-- ==== Sys2Proof/Word.lean ====
section
/-! DEFINITION. The words of the setting link: bytes and the 16-bit fields of frames. -/

namespace Sys2Proof

/-- One character of the setting link: 8 data bits (section 11.1). -/
abbrev Byte := BitVec 8

/-- A two-byte field of a frame (TAG, REQNO, CHECK), section 11.2. -/
abbrev Word16 := BitVec 16

end Sys2Proof
end

