-- ==== Sys2Proof/Syntax.lean ====
section
/-! DEFINITION. The commands of the block: one constructor of Instr for each row of spec/opcode_table.json, with the operands
each row takes from outside (a request frame's fields, an input's sample or level, a slot, a port). -/

namespace Sys2Proof

/-- The three link ports (chapter 11; port codes in section 11.2). -/
inductive Port where
  | plant | stnA | stnB
  deriving DecidableEq, Repr, Inhabited

/-- A slot number 0..7 (R1). -/
abbrev SlotId := Fin 8

/-- One thing for each of the eight slots of the machine table (R1). -/
structure PerSlot (α : Type) where
  s0 : α
  s1 : α
  s2 : α
  s3 : α
  s4 : α
  s5 : α
  s6 : α
  s7 : α
  deriving DecidableEq, Repr, Inhabited

def PerSlot.get {α : Type} (t : PerSlot α) (i : SlotId) : α :=
  match i with
  | 0 => t.s0 | 1 => t.s1 | 2 => t.s2 | 3 => t.s3 | 4 => t.s4 | 5 => t.s5 | 6 => t.s6 | 7 => t.s7

def PerSlot.set {α : Type} (t : PerSlot α) (i : SlotId) (x : α) : PerSlot α :=
  match i with
  | 0 => { t with s0 := x } | 1 => { t with s1 := x } | 2 => { t with s2 := x } | 3 => { t with s3 := x }
  | 4 => { t with s4 := x } | 5 => { t with s5 := x } | 6 => { t with s6 := x } | 7 => { t with s7 := x }

/-- The table whose entry for each slot is `f` of that slot. -/
def PerSlot.of {α : Type} (f : SlotId → α) : PerSlot α :=
  ⟨f 0, f 1, f 2, f 3, f 4, f 5, f 6, f 7⟩

/-- The same thing at every slot. -/
def PerSlot.all {α : Type} (x : α) : PerSlot α := ⟨x, x, x, x, x, x, x, x⟩

/-- The slots in slot order. -/
def slotIds : List SlotId := [0, 1, 2, 3, 4, 5, 6, 7]

/-- One thing for each link port. -/
structure PerPort (α : Type) where
  plant : α
  stnA : α
  stnB : α
  deriving DecidableEq, Repr, Inhabited

def PerPort.get {α : Type} (t : PerPort α) (p : Port) : α :=
  match p with
  | .plant => t.plant | .stnA => t.stnA | .stnB => t.stnB

def PerPort.set {α : Type} (t : PerPort α) (p : Port) (x : α) : PerPort α :=
  match p with
  | .plant => { t with plant := x } | .stnA => { t with stnA := x } | .stnB => { t with stnB := x }

/-- The table whose entry for each port is `f` of that port. -/
def PerPort.of {α : Type} (f : Port → α) : PerPort α := ⟨f .plant, f .stnA, f .stnB⟩

/-- The ports in port-code order (section 11.2). -/
def ports : List Port := [.plant, .stnA, .stnB]

/-- A request frame as the assembler hands it to the decoder, less its KIND (section 11.2): the port it came in on, its FLAGS,
TAG and SLOT fields, and its payload bytes. -/
structure Request where
  port : Port
  flags : Byte
  tag : Word16
  slot : Byte
  payload : List Byte
  deriving DecidableEq, Repr, Inhabited

/-- A character as the receiver of a port gives it: its eight data bits, and whether its stop bit was missing (R171). -/
structure RxChar where
  data : Byte
  framingError : Bool
  deriving DecidableEq, Repr, Inhabited

/-- The answer of a position sensor to one clock burst (section 10.2): whether the start bit came, the fourteen position bits,
the parity bit and the status bit. -/
structure PositionAnswer where
  start : Bool
  bits : BitVec 14
  parity : Bool
  status : Bool
  deriving DecidableEq, Repr, Inhabited

/-- The analog inputs (R161). -/
inductive AnalogInput where
  | level (slot : SlotId)
  | power (slot : SlotId)
  | bin
  deriving DecidableEq, Repr, Inhabited

/-- The discrete inputs (R165). -/
inductive DiscreteInput where
  | relief (slot : SlotId)
  | lockout (slot : SlotId)
  | running (slot : SlotId)
  | lineStop
  | selectorA
  | selectorB
  deriving DecidableEq, Repr, Inhabited

/-- What the power-on input scan finds at one slot's channel group (R162, R164, R165): raw analog values, contacts (true: the
contact or loop is closed) and the answers the position sensor gives to the scan's first, second and third clock burst. -/
structure SlotScan where
  level : BitVec 12
  power : BitVec 12
  relief : Bool
  lockout : Bool
  running : Bool
  position1 : PositionAnswer
  position2 : PositionAnswer
  position3 : PositionAnswer
  deriving DecidableEq, Repr, Inhabited

/-- What power-on start-up reads from outside: the straps (true: fitted, R170) and the line group's and the slots' inputs. -/
structure InputScan where
  rateStrap : Bool
  portBStrap : Bool
  bin : BitVec 12
  lineStop : Bool
  selectorA : Bool
  selectorB : Bool
  slots : PerSlot SlotScan
  deriving DecidableEq, Repr, Inhabited

/-- The commands, in the order of spec/opcode_table.json. -/
inductive Instr where
  | powerOn (scan : InputScan)
  | startUpEnd
  | echo (r : Request)
  | readSlot (r : Request)
  | readQueue (r : Request)
  | readLine (r : Request)
  | readReliefs (r : Request)
  | readRecipe (r : Request)
  | readNote (r : Request)
  | take (r : Request)
  | release (r : Request)
  | hand (r : Request)
  | postNote (r : Request)
  | setHold (r : Request)
  | setGap (r : Request)
  | stepGap (r : Request)
  | recallGap (r : Request)
  | suspend (r : Request)
  | resume (r : Request)
  | go (r : Request)
  | flush (r : Request)
  | calibrate (r : Request)
  | clearBlock (r : Request)
  | setRate (r : Request)
  | startFeed (r : Request)
  | stopFeed (r : Request)
  | startLine (r : Request)
  | applyRecipe (r : Request)
  | abortChange (r : Request)
  | saveRecipe (r : Request)
  | writeParams (r : Request)
  | lockParams (r : Request)
  | setMask (r : Request)
  | clearMask (r : Request)
  | clearConditions (r : Request)
  | subscribe (r : Request)
  | lineReset (r : Request)
  | badKindRequest (kind : Byte) (r : Request)
  | characterReceived (port : Port) (c : RxChar)
  | interCharacterGap (port : Port)
  | transmitTake (port : Port)
  | frameTransmitted (port : Port)
  | analogSample (input : AnalogInput) (raw : BitVec 12)
  | positionSample (slot : SlotId) (answer : PositionAnswer)
  | tonnageEdge (slot : SlotId)
  | discreteInputChange (input : DiscreteInput) (closed : Bool)
  | debounceExpiry (input : DiscreteInput)
  | travelExpiry (slot : SlotId)
  | settleExpiry (slot : SlotId)
  | suspensionExpiry (slot : SlotId)
  | drainLimitExpiry (slot : SlotId)
  | fixedDrainExpiry (slot : SlotId)
  | recoveryTimerExpiry (slot : SlotId)
  | restartDelayExpiry (slot : SlotId)
  | regulationPeriod (slot : SlotId)
  | runConfirmExpiry (slot : SlotId)
  | changeTimerExpiry
  | dwellExpiry (slot : SlotId)
  | storeWriteStart
  | storeWriteComplete (matched : Bool)
  | powerLoss
  deriving DecidableEq, Repr, Inhabited

end Sys2Proof
end

