-- ==== Sys2Proof/Decode.lean ====
section
/-! DEFINITION. Words of the opcode table. No row of spec/opcode_table.json gives bits: a request is spelled by a whole frame of the
setting link (Machine/Link.lean), and the events have no code at all (log 5). -/

namespace Sys2Proof

/-- The command a word of the opcode table's bits spells: none, since no row gives bits. -/
def decodeTableWord (_nbits _w : Nat) : Option Instr := none

end Sys2Proof
end

