-- ==== Sys2Proof/Machine/Records.lean ====
section
/-! DEFINITION. The data the manual names: enumerations, commissioning records, queue entries and move records, calibration,
relief and line-change records, conditions, notices, replies, store records. Plain data only; no behaviour. -/

namespace Sys2Proof.Machine

open Sys2Proof

/-! ### Enumerations -/

/-- Slot kinds (section 1.2). -/
inductive Kind where
  | unused | jaw | cone | feeder
  deriving DecidableEq, Repr, Inhabited

/-- Station areas (R3). -/
inductive Area where
  | noArea | a | b
  deriving DecidableEq, Repr, Inhabited

/-- Relation of a feeder to the surge bin (R5). -/
inductive BinRel where
  | neither | fills | draws
  deriving DecidableEq, Repr, Inhabited

/-- Parameter lock modes (R130). -/
inductive LockMode where
  | openMode | commissioned | frozen | fixed
  deriving DecidableEq, Repr, Inhabited

/-- Feed regulation modes (R8). -/
inductive RegMode where
  | fixed | level
  deriving DecidableEq, Repr, Inhabited

/-- Surge-bin states (R96). -/
inductive BinState where
  | empty | low | normal | high | full | unknown
  deriving DecidableEq, Repr, Inhabited

/-- Causes of BLOCKED (R52). -/
inductive BlockCause where
  | trampRepeat | recoveryFail | wearLimit | paramFault
  deriving DecidableEq, Repr, Inhabited

/-- Motion states of a crusher slot (R7). -/
inductive Motion where
  | idle | draining | moving | settling | suspended | relief | recovering | calibrating
  | blocked (cause : BlockCause)
  deriving DecidableEq, Repr, Inhabited

/-- Stages of a calibration run that outlast an event (R95); CONTACT is an event inside APPROACH (R89). -/
inductive CalStage where
  | drain | approach | reopen | backoff
  deriving DecidableEq, Repr, Inhabited

/-- Run states of a feeder (R100). -/
inductive RunState where
  | stopped | running | fault
  deriving DecidableEq, Repr, Inhabited

/-- Inhibit reasons of a feeder (section 6.3). -/
inductive Inhibit where
  | relief | recoveryDelay | drain | calibrate | lockout
  deriving DecidableEq, Repr, Inhabited

/-- Suspension causes of a move (R48). -/
inductive Cause where
  | request | sensor | lineStop | handover
  deriving DecidableEq, Repr, Inhabited

/-- Who a queue entry, move or recall entry comes from: a port, or the part itself (section 4). -/
inductive Origin where
  | port (p : Port)
  | line
  deriving DecidableEq, Repr, Inhabited

/-- Kinds of move entry (R35); CALIBRATE is the move kind of a calibration's MOVE_END notice (R93). -/
inductive MoveKind where
  | set | step | trim | calibrate
  deriving DecidableEq, Repr, Inhabited

/-- Dispositions (section 11.5). -/
inductive Disposition where
  | done | doneAdjusted | started | queued | partialDone | failed | discarded | refused
  deriving DecidableEq, Repr, Inhabited

/-- Reasons (section 11.5), in code order. -/
inductive Reason where
  | noReason | authority | area | localMode | lockout | lineStop | holdSpan | blocked | envelope | reach
  | queueFull | queueNear | notIdle | notActive | notSuspended | nothingStaged | empty | busy | storeBusy | locked
  | badSlot | badKind | badValue | boxFull | timeout | suspendExpired | sensor | noContact | drainTimeout | handover
  | aborted | flush | relief | trampRepeat | calJump | feederFault | storeFault
  deriving DecidableEq, Repr, Inhabited

/-- Condition kinds (section 9.1), in code order. -/
inductive Cond where
  | envelope | reach | levelInvalid | powerInvalid | binInvalid | positionInvalid | calJump | wearLimit
  | moveTimeout | suspendExpired | drainTimeout | noContact | feederFault | trampRepeat | storeFault | paramFault
  | historyWrap
  deriving DecidableEq, Repr, Inhabited

/-- Classes of condition kinds (section 9.1). -/
inductive CondClass where
  | maskable | fault | informational
  deriving DecidableEq, Repr, Inhabited

/-- Summary values, in rising order of severity (R153). -/
inductive Summary where
  | clear | info | warning | fault
  deriving DecidableEq, Repr, Inhabited

/-- Notice kinds (section 11.2). -/
inductive NoticeKind where
  | moveEnd | condition | authority | relief | lineStop | changeEnd | notePosted | binState | feederState
  deriving DecidableEq, Repr, Inhabited

/-- Causes of an authority change (R118). -/
inductive AuthCause where
  | take | release | hand | selector | area | kind
  deriving DecidableEq, Repr, Inhabited

/-- Outcomes of a relief end (R78). -/
inductive ReliefOutcome where
  | recovering | trampRepeat | abandoned | recorded
  deriving DecidableEq, Repr, Inhabited

/-- Causes of a change at a feeder (R117). -/
inductive FeederCause where
  | startFeed | startLine | stopFeed | lineStop | lockout | feederFault | levelInvalid | powerInvalid | binInvalid
  | paramFault
  | raised (r : Inhibit)
  | lowered (r : Inhibit)
  deriving DecidableEq, Repr, Inhabited

/-- Relations of a crusher to its target in force (R18). -/
inductive Relation where
  | unordered | within | openOf | closedOf
  deriving DecidableEq, Repr, Inhabited

/-- Outcomes of a contact (R95). -/
inductive CalOutcome where
  | accepted | adjusted | rejected
  deriving DecidableEq, Repr, Inhabited

/-- Directions of a crusher drive (section 10.5). -/
inductive Dir where
  | closing | opening
  deriving DecidableEq, Repr, Inhabited

/-- States of a change item (R140). -/
inductive ItemState where
  | pending | active | done | adjusted | skipped | failed
  deriving DecidableEq, Repr, Inhabited

/-- Modes of a line change (R139). -/
inductive ChangeMode where
  | direct | staged
  deriving DecidableEq, Repr, Inhabited

/-- Whether the part is unpowered, in power-on start-up, or past its end (R183). -/
inductive Phase where
  | off | startUp | running
  deriving DecidableEq, Repr, Inhabited

/-- The requests of the table in section 11.5. -/
inductive ReqCode where
  | echo | readSlot | readQueue | readLine | readReliefs | readRecipe | readNote
  | take | release | hand | postNote | setHold
  | setGap | stepGap | recallGap | suspend | resume | go | flush | calibrate | clearBlock
  | setRate | startFeed | stopFeed | startLine
  | applyRecipe | abortChange | saveRecipe
  | writeParams | lockParams | setMask | clearMask | clearConditions | subscribe | lineReset
  deriving DecidableEq, Repr, Inhabited

/-! ### Sets the manual codes as bits (section 11.2, payload field codes) -/

/-- A set of slots: bit n for slot n. -/
abbrev SlotSet := BitVec 8

/-- A set of condition kinds: bit n for condition kind code n. -/
abbrev CondSet := BitVec 17

/-- A set of notice kinds: bit n for notice kind code n. -/
abbrev NoticeSet := BitVec 16

/-- A running timer holds the time of its expiry, in ms of the part's clock; a stopped timer holds none. -/
abbrev Timer := Option Nat

/-! ### Commissioning records -/

/-- The crusher commissioning record (R4), less KIND. -/
structure CrusherParams where
  g : Nat
  inverted : Bool
  pLo : Nat
  pHi : Nat
  cm : Nat
  envMin : Nat
  envMax : Nat
  db : Nat
  slowBand : Nat
  settle : Nat
  travel : Nat
  suspLimit : Nat
  drainLimit : Nat
  drainFixed : Nat
  cavEmpty : Nat
  wearMax : Nat
  wearRate : Nat
  trimStep : Nat
  autoTrim : Bool
  calTol : Nat
  reliefN : Nat
  reliefWindow : Nat
  restartDelay : Nat
  linkedFeeder : Option SlotId
  area : Area
  nearFull : Nat
  levelIn : Bool
  powerIn : Bool
  deriving DecidableEq, Repr, Inhabited

/-- The feeder commissioning record (R5), less KIND. -/
structure FeederParams where
  served : Option SlotId
  binRel : BinRel
  rMin : Nat
  rMax : Nat
  rampUp : Nat
  rampDn : Nat
  kl : Nat
  kw : Nat
  wLim : Nat
  period : Nat
  runConfirm : Nat
  capLow : Nat
  capHigh : Nat
  area : Area
  deriving DecidableEq, Repr, Inhabited

/-- A commissioning record with its kind (R4, R5): as WRITE_PARAMS carries it, and as part 1 of READ_SLOT returns it. -/
inductive Record where
  | blank
  | crusher (kind : Kind) (c : CrusherParams)
  | feeder (f : FeederParams)
  deriving DecidableEq, Repr, Inhabited

/-- The bin thresholds and the hysteresis (R96). -/
structure BinThresholds where
  empty : Nat
  low : Nat
  high : Nat
  full : Nat
  hys : Nat
  deriving DecidableEq, Repr, Inhabited

/-! ### Moves -/

/-- A set of suspension causes (R48). -/
structure Causes where
  request : Bool
  sensor : Bool
  lineStop : Bool
  handover : Bool
  deriving DecidableEq, Repr, Inhabited

/-- A queue entry (R35). `code` is the request the entry's replies answer (R175). -/
structure Entry where
  origin : Origin
  code : ReqCode
  tag : Word16
  reqno : Word16
  ack : Bool
  kind : MoveKind
  requested : Int
  applied : Option Nat
  adjusted : Bool
  priority : Bool
  staged : Bool
  changeId : Option Nat
  deriving DecidableEq, Repr, Inhabited

/-- Where a suspended move returns to (R48). -/
inductive ReturnTo where
  | draining | moving
  deriving DecidableEq, Repr, Inhabited

/-- The move record (R42): the entry it was made from, the applied gap (absent only while a STEP's check fails at its start), the
target position, the first check that adjusted the move, and what is used while SUSPENDED. -/
structure MoveRec where
  entry : Entry
  applied : Option Nat
  target : Nat
  adjusted : Option Reason
  returnTo : ReturnTo
  causes : Causes
  remaining : Nat
  deriving DecidableEq, Repr, Inhabited

/-- A place of the recall stack that is not EMPTY (R57). -/
structure RecallEntry where
  gap : Nat
  origin : Origin
  deriving DecidableEq, Repr, Inhabited

/-- The recall stack: six places and TOP (R57). -/
structure RecallStack where
  p0 : Option RecallEntry
  p1 : Option RecallEntry
  p2 : Option RecallEntry
  p3 : Option RecallEntry
  p4 : Option RecallEntry
  p5 : Option RecallEntry
  top : Fin 6
  deriving DecidableEq, Repr, Inhabited

/-- The last calibration record (R95). -/
structure CalRecord where
  time : Nat
  zOld : Nat
  zNew : Nat
  wBefore : Nat
  jump : Nat
  outcome : CalOutcome
  deriving DecidableEq, Repr, Inhabited

/-- The calibration run record (R85). `contact` is the outcome of the CONTACT, `reachFail` the unmasked REACH or empty reach of
the backoff (R91), `trace` the valid positions since the APPROACH began, newest first, each with its time in ms (R88, R164),
and `stageAt` the time of entry to the APPROACH. -/
structure CalRun where
  port : Port
  tag : Word16
  reqno : Word16
  ack : Bool
  stage : CalStage
  fromBlocked : Bool
  pStart : Option Nat
  contact : Option CalOutcome
  target : Option Nat
  adjCalJump : Bool
  adjReach : Bool
  reachFail : Bool
  stageAt : Nat
  trace : List (Nat × Nat)
  deriving DecidableEq, Repr, Inhabited

/-- Return states of a relief episode (R62). -/
inductive EpisodeReturn where
  | idle | moving | suspended
  deriving DecidableEq, Repr, Inhabited

/-- A relief episode (R62). -/
structure Episode where
  openedAt : Nat
  pPre : Option Nat
  returnTo : EpisodeReturn
  target : Option Int
  abandoned : Bool
  deriving DecidableEq, Repr, Inhabited

/-! ### Working state of the slots -/

/-- Working state of a crusher slot (R7, R62, R79). The travel timer serves as the recovery timer in RECOVERING (R68). -/
structure Crusher where
  tf : Nat
  motion : Motion
  queue : List Entry
  move : Option MoveRec
  stack : RecallStack
  z : Nat
  w : Nat
  acc : Nat
  tonnes : Nat
  wAtMove : Nat
  lastCal : Option CalRecord
  wearBlock : Bool
  cal : Option CalRun
  history : List Nat
  episode : Option Episode
  travel : Timer
  settle : Timer
  suspension : Timer
  drainLimit : Timer
  fixedDrain : Timer
  restart : Timer
  deriving DecidableEq, Repr, Inhabited

/-- A set of inhibit reasons (section 6.3). -/
structure Inhibits where
  relief : Bool
  recoveryDelay : Bool
  drain : Bool
  calibrate : Bool
  lockout : Bool
  deriving DecidableEq, Repr, Inhabited

/-- Working state of a feeder slot (R8). The RUN output is the run state being RUNNING (R116). -/
structure Feeder where
  run : RunState
  inhibits : Inhibits
  rb : Nat
  mode : RegMode
  ls : Nat
  r : Nat
  rPrev : Nat
  seed : Bool
  regTimer : Timer
  confirmTimer : Timer
  paramFault : Bool
  deriving DecidableEq, Repr, Inhabited

/-! ### Field channels -/

/-- An analog input: validity and last valid scaled value (R161, R162), and when it was last sampled. -/
structure Analog where
  valid : Bool
  last : Nat
  sampledAt : Option Nat
  deriving DecidableEq, Repr, Inhabited

/-- A position channel (R164), and when it was last sampled. -/
structure PosChannel where
  valid : Bool
  bad : Nat
  last : Option Nat
  sampledAt : Option Nat
  deriving DecidableEq, Repr, Inhabited

/-- A debounced input (R165): its raw level and its debounced state, both as asserted or not, and its debounce timer. -/
structure Discrete where
  raw : Bool
  state : Bool
  timer : Timer
  deriving DecidableEq, Repr, Inhabited

/-- A drive command (R167): HOLD (`dir` absent), CLOSE or OPEN, SLOW, and with CLOSE the close limit in force. -/
structure DriveCmd where
  dir : Option Dir
  slow : Bool
  limit : Int
  deriving DecidableEq, Repr, Inhabited

/-- The output driver of a crusher (R167, R168): the command it holds, its outputs, the last direction and the dwell timer. -/
structure Driver where
  cmd : DriveCmd
  out : Option Dir
  outSlow : Bool
  last : Option Dir
  dwell : Timer
  deriving DecidableEq, Repr, Inhabited

/-- One slot of the machine table with its channel group. `kind`, the parameters, `lock` and `preFreeze` are the working copy of
the slot's parameter record (R180); the parameters and the working state of a kind the slot does not have are not in use.
`unusedFault` is the parameter fault of a slot of kind NONE (R9); a crusher's is its state BLOCKED(PARAM_FAULT), a feeder's its
parameter block. -/
structure Slot where
  kind : Kind
  cp : CrusherParams
  fp : FeederParams
  lock : LockMode
  preFreeze : LockMode
  unusedFault : Bool
  holder : Option Port
  conds : CondSet
  mask : CondSet
  crusher : Crusher
  feeder : Feeder
  lockout : Discrete
  relief : Discrete
  running : Discrete
  level : Analog
  power : Analog
  position : PosChannel
  lastEdge : Option Nat
  driver : Driver
  deriving DecidableEq, Repr, Inhabited

/-! ### Recipes and line changes -/

/-- What a recipe asks of a slot (R135): a gap, or a base rate, mode and cavity setpoint. -/
inductive RecipeValue where
  | gap (g : Nat)
  | feed (rb : Nat) (mode : RegMode) (ls : Nat)
  deriving DecidableEq, Repr, Inhabited

/-- A recipe entry (R135). -/
structure RecipeEntry where
  slot : SlotId
  value : RecipeValue
  deriving DecidableEq, Repr, Inhabited

/-- A valid recipe record (R135). -/
structure Recipe where
  name : List Byte
  entries : List RecipeEntry
  deriving DecidableEq, Repr, Inhabited

/-- A change item (R140). -/
structure Item where
  slot : SlotId
  kind : Kind
  value : RecipeValue
  wave : Nat
  state : ItemState
  reason : Reason
  applied : Option Nat
  deriving DecidableEq, Repr, Inhabited

/-- The line change record (R139). -/
structure Change where
  id : Nat
  origin : Port
  tag : Word16
  reqno : Word16
  ack : Bool
  recipe : SlotId
  mode : ChangeMode
  wave : Nat
  timer : Nat
  items : List Item
  deriving DecidableEq, Repr, Inhabited

/-! ### The line -/

/-- The hold span record, when it is not NONE (R128). -/
structure Hold where
  anchor : SlotId
  down : Bool
  complement : Bool
  deriving DecidableEq, Repr, Inhabited

/-- A note (R132). -/
structure Note where
  sender : Port
  slots : SlotSet
  text : List Byte
  deriving DecidableEq, Repr, Inhabited

/-- The bin monitor and the bin level input (R96, R161). -/
structure Bin where
  state : BinState
  thresholds : BinThresholds
  lastValid : Nat
  input : Analog
  deriving DecidableEq, Repr, Inhabited

/-! ### The nonvolatile store -/

/-- Contents of a parameter record (R180). The frozen mark is `lock` being FROZEN. -/
structure ParamImage where
  kind : Kind
  cp : CrusherParams
  fp : FeederParams
  lock : LockMode
  preFreeze : LockMode
  deriving DecidableEq, Repr, Inhabited

/-- Contents of a calibration record (R180). -/
structure CalImage where
  z : Nat
  lastCal : Option CalRecord
  deriving DecidableEq, Repr, Inhabited

/-- Contents of a wear record (R180): a crusher's figures, and a feeder's settings in the same place (R8). -/
structure WearImage where
  tf : Nat
  w : Nat
  accHigh : Nat
  tonnes : Nat
  wAtMove : Nat
  rb : Nat
  mode : RegMode
  ls : Nat
  deriving DecidableEq, Repr, Inhabited

/-- A stored record: its contents, and the check value written with them (R180). -/
structure Stored (α : Type) where
  contents : α
  check : Word16
  deriving DecidableEq, Repr, Inhabited

/-- The 33 records of the store (R180). -/
structure Nonvolatile where
  params : PerSlot (Stored ParamImage)
  cals : PerSlot (Stored CalImage)
  wears : PerSlot (Stored WearImage)
  line : Stored BinThresholds
  recipes : PerSlot (Stored (Option Recipe))
  deriving DecidableEq, Repr, Inhabited

/-- The records by name (R180). -/
inductive RecId where
  | param (slot : SlotId)
  | cal (slot : SlotId)
  | wear (slot : SlotId)
  | line
  | recipe (n : SlotId)
  deriving DecidableEq, Repr, Inhabited

/-- The values a store write carries (R181). -/
inductive Image where
  | param (x : ParamImage)
  | cal (x : CalImage)
  | wear (x : WearImage)
  | line (x : BinThresholds)
  | recipe (x : Option Recipe)
  deriving DecidableEq, Repr, Inhabited

/-- A write in progress: the record, the values it carries, and the new check value (R181). -/
structure StoreWrite where
  record : RecId
  image : Image
  check : Word16
  deriving DecidableEq, Repr, Inhabited

/-- A pending final reply that waits for a store write (R181). -/
structure PendingReply where
  record : RecId
  port : Port
  code : ReqCode
  tag : Word16
  reqno : Word16
  slot : Byte
  disp : Disposition
  reason : Reason
  deriving DecidableEq, Repr, Inhabited

/-! ### Notices and replies -/

/-- An item of a line change as the final reply and the CHANGE_END notice carry it (R147). -/
structure ItemResult where
  slot : SlotId
  state : ItemState
  reason : Reason
  applied : Option Nat
  deriving DecidableEq, Repr, Inhabited

/-- What a notice carries, by kind (section 9.5). -/
inductive NoticeBody where
  | moveEnd (kind : MoveKind) (disp : Disposition) (reason : Reason) (origin : Origin) (tag : Word16) (tf : Nat)
  | condition (kind : Cond) (masked : Option Bool) (set : CondSet) (slotSummary : Option Summary) (lineSummary : Summary)
  | authority (before after : Option Port) (cause : AuthCause)
  | relief (outcome : Option ReliefOutcome) (count : Nat)
  | lineStop (asserted : Bool)
  | changeEnd (id : Nat) (origin : Port) (recipe : SlotId) (disp : Disposition) (reason : Reason) (items : List ItemResult)
  | notePosted (offeredTo sender : Port) (slots : SlotSet) (length : Nat)
  | binState (before after : BinState) (level : Option Nat)
  | feederState (run : RunState) (inhibits : Inhibits) (r : Nat) (cause : FeederCause)
  deriving DecidableEq, Repr, Inhabited

/-- A notice: its header's time and slot (none: 0xFF) and its contents (section 9.5, section 11.2). -/
structure Notice where
  time : Nat
  slot : Option SlotId
  body : NoticeBody
  deriving DecidableEq, Repr, Inhabited

/-- READ_SLOT part 0 for a crusher (R17). -/
structure CrusherReport where
  motion : Motion
  causes : Option Causes
  stage : Option CalStage
  tf : Nat
  p : Option Nat
  pValid : Bool
  pTf : Option Nat
  e : Option Nat
  relation : Relation
  z : Nat
  w : Nat
  tonnes : Nat
  wAtMove : Nat
  occupancy : Nat
  headStaged : Bool
  recallDepth : Nat
  level : Nat
  levelValid : Bool
  power : Nat
  powerValid : Bool
  deriving DecidableEq, Repr, Inhabited

/-- READ_SLOT part 0 for a feeder (R17). -/
structure FeederReport where
  run : RunState
  inhibits : Inhibits
  paramFault : Bool
  rb : Nat
  mode : RegMode
  ls : Nat
  r : Nat
  seed : Bool
  feedback : Bool
  served : Option SlotId
  binRel : BinRel
  deriving DecidableEq, Repr, Inhabited

/-- READ_SLOT part 0 (R17). -/
structure SlotReport where
  kind : Kind
  area : Area
  holder : Option Port
  lock : LockMode
  conds : CondSet
  mask : CondSet
  summary : Summary
  crusher : Option CrusherReport
  feeder : Option FeederReport
  deriving DecidableEq, Repr, Inhabited

/-- The suspension fields of a READ_QUEUE report, present in SUSPENDED (R60). -/
structure SuspensionReport where
  returnTo : ReturnTo
  causes : Causes
  remaining : Nat
  deriving DecidableEq, Repr, Inhabited

/-- A queue entry in a READ_QUEUE report: every field of R35 (R60). -/
structure EntryReport where
  origin : Origin
  tag : Word16
  reqno : Word16
  ack : Bool
  kind : MoveKind
  requested : Int
  applied : Option Nat
  adjusted : Bool
  priority : Bool
  staged : Bool
  changeId : Option Nat
  deriving DecidableEq, Repr, Inhabited

/-- The move record in a READ_QUEUE report (R60). -/
structure MoveReport where
  entry : EntryReport
  applied : Option Nat
  target : Nat
  adjusted : Bool
  suspension : Option SuspensionReport
  deriving DecidableEq, Repr, Inhabited

/-- READ_QUEUE (R60). -/
structure QueueReport where
  motion : Motion
  stage : Option CalStage
  move : Option MoveReport
  queue : List EntryReport
  stack : List RecallEntry
  depth : Nat
  lastCal : Option CalRecord
  deriving DecidableEq, Repr, Inhabited

/-- A slot's line in READ_LINE (R134). -/
structure LineSlotReport where
  kind : Kind
  area : Area
  holder : Option Port
  lockout : Bool
  summary : Summary
  deriving DecidableEq, Repr, Inhabited

/-- An item of the line change in READ_LINE (R134, R150). -/
structure ItemReport where
  slot : SlotId
  kind : Kind
  state : ItemState
  reason : Reason
  deriving DecidableEq, Repr, Inhabited

/-- The line change in READ_LINE (R134); `remaining` is the change timer's remaining time in s. -/
structure ChangeReport where
  id : Nat
  origin : Port
  recipe : SlotId
  mode : ChangeMode
  wave : Nat
  remaining : Nat
  items : List ItemReport
  deriving DecidableEq, Repr, Inhabited

/-- READ_LINE (R134). -/
structure LineReport where
  time : Nat
  slots : PerSlot LineSlotReport
  selectorA : Bool
  selectorB : Bool
  portBDisabled : Bool
  hold : Option Hold
  held : SlotSet
  lineStop : Bool
  summary : Summary
  binState : BinState
  binLevel : Nat
  thresholds : BinThresholds
  notes : PerPort (Option Port)
  change : Option ChangeReport
  deriving DecidableEq, Repr, Inhabited

/-- READ_RELIEFS (R77). -/
structure ReliefReport where
  asserted : Bool
  history : List Nat
  count : Nat
  inWindow : Nat
  reliefN : Nat
  reliefWindow : Nat
  episode : Option Episode
  recoveryRemaining : Option Nat
  restartRemaining : Option Nat
  deriving DecidableEq, Repr, Inhabited

/-- What a reply carries (the rule of each request). -/
inductive ReplyBody where
  | empty
  | echoed (bytes : List Byte)
  | slotState (r : SlotReport)
  | slotRecord (r : Record) (lock : LockMode)
  | queue (r : QueueReport)
  | line (r : LineReport)
  | reliefs (r : ReliefReport)
  | recipe (r : Option Recipe)
  | note (n : Note)
  | slots (granted : SlotSet) (reasons : List (SlotId × Reason))
  | hold (h : Option Hold) (held : SlotSet)
  | entry (value : Int) (adjusted : Bool) (occupancy : Nat)
  | causes (c : Causes)
  | feed (rb : Nat) (mode : RegMode) (ls : Nat)
  | masks (m : List (SlotId × CondSet))
  | subscription (s : NoticeSet)
  | changeStarted (id : Nat) (items : List (SlotId × ItemState))
  | changeItems (id : Nat) (recipe : SlotId) (items : List ItemResult)
  | changeOutcome (disp : Disposition) (reason : Reason)
  | recipeSaved (n : SlotId) (entries : Nat)
  | moveEnded (applied : Option Nat) (tf : Nat)
  | calibrated (z w : Nat) (lastCal : Option CalRecord)
  deriving DecidableEq, Repr, Inhabited

/-- A reply frame's contents (section 11.2). `kind` and `slot` are the bytes of the request answered. -/
structure Reply where
  kind : Byte
  disp : Disposition
  reason : Reason
  tag : Word16
  reqno : Word16
  slot : Byte
  body : ReplyBody
  deriving DecidableEq, Repr, Inhabited

/-- A frame being transmitted: a reply, or a notice with its OVERRUN field (R160). -/
inductive OutFrame where
  | reply (r : Reply)
  | notice (n : Notice) (overrun : Bool)
  deriving DecidableEq, Repr, Inhabited

/-- A receive assembler (R171): in HUNT, or in COLLECT with the characters after SYNC so far and the time of the last one. -/
inductive Assembler where
  | hunt
  | collect (got : List Byte) (lastAt : Nat)
  deriving DecidableEq, Repr, Inhabited

/-- One link port (chapter 11, R132). `noticeTurn` marks that a notice was the first frame to join while the transmitter was free
with nothing waiting, so that the next take is that notice's (R176). -/
structure PortState where
  reqno : Word16
  asm : Assembler
  tx : List Reply
  notices : List Notice
  overrun : Bool
  subs : NoticeSet
  sending : Option OutFrame
  noticeTurn : Bool
  note : Option Note
  deriving DecidableEq, Repr, Inhabited

end Sys2Proof.Machine
end

