-- ==== Sys2Proof/Config.lean ====
section
/-! DEFINITION. What an implementation fixes: the constants the manual gives no parameter for, and the free values, which are
opaque constants so that nothing can be proved of the value the manual leaves open. -/

namespace Sys2Proof

open Sys2Proof.Machine

/-- Debounce time of a discrete input, ms (R165). -/
def Config.debounceMs : Nat := 50
/-- Reversal dwell of a crusher drive, ms (R168). -/
def Config.dwellMs : Nat := 300
/-- Contact window, ms (R88). -/
def Config.contactMs : Nat := 2000
/-- Largest advance over the contact window that still counts as contact, counts (R88). -/
def Config.contactCounts : Nat := 2
/-- Sampling period of an analog input, ms (R161). -/
def Config.analogMs : Nat := 50
/-- Sampling period of a position sensor, ms (R163). -/
def Config.positionMs : Nat := 20
/-- Longest gap between two characters of a frame, ms (R171). -/
def Config.characterGapMs : Nat := 20
/-- Least time between two accepted tonnage edges, ms (R166). -/
def Config.edgeMs : Nat := 100
/-- Places of a transmit queue (R176). -/
def Config.txPlaces : Nat := 64
/-- Places of a notice queue (R159). -/
def Config.noticePlaces : Nat := 16
/-- Places of a move queue (R36). -/
def Config.queuePlaces : Nat := 4
/-- Places of a relief history (R63). -/
def Config.historyPlaces : Nat := 8
/-- Default time limit of a line change, s (R141). -/
def Config.changeLimitS : Nat := 900
/-- Longest request payload, bytes (section 11.2). -/
def Config.payloadBytes : Nat := 241
/-- What step adds to the clock when no command waits, ms. DESIGN CHOICE (log 2). -/
def Config.tickMs : Nat := 1

/-! Free values: UNDEFINED in the manual, so opaque. The index is a draw counter of State or the operand itself. -/

/-- What a parameter record holds after a power loss during its write (R182: "whatever the store holds"; log 11). -/
opaque Config.tornParam : Nat → Stored ParamImage
/-- What a calibration record holds after a power loss during its write (R182; log 11). -/
opaque Config.tornCal : Nat → Stored CalImage
/-- What a wear record holds after a power loss during its write (R182; log 11). -/
opaque Config.tornWear : Nat → Stored WearImage
/-- What the line record holds after a power loss during its write (R182; log 11). -/
opaque Config.tornLine : Nat → Stored BinThresholds
/-- What a recipe record holds after a power loss during its write (R182; log 11). -/
opaque Config.tornRecipe : Nat → Stored (Option Recipe)
/-- The check value that a write which failed its verification leaves on its record (chapter 12, Store contention; log 12). -/
opaque Config.checkLeft : Nat → Word16
/-- The bytes of a record's contents, over which its check value is computed (R180); the manual lays out none (log 33). -/
opaque Config.storeLayout : Image → List Byte
/-- The payload bytes of a reply whose fields' composition the manual does not lay out (log 23). -/
opaque Config.replyLayout : ReplyBody → List Byte
/-- The payload bytes of a notice whose fields' composition the manual does not lay out (log 23). -/
opaque Config.noticeLayout : NoticeBody → List Byte

end Sys2Proof
end

