-- ==== Sys2Proof/Machine/Codes.lean ====
section
/-! DEFINITION. The codes of section 11.2 and section 11.5: request codes, dispositions, reasons, condition kinds, notice kinds
and the enumerations of payload fields ("coded from 0 in the order the owning table lists the values"). -/

namespace Sys2Proof.Machine

open Sys2Proof

/-- Request codes (section 11.5). -/
def ReqCode.code : ReqCode → Byte
  | .echo => 0x01 | .readSlot => 0x02 | .readQueue => 0x03 | .readLine => 0x04 | .readReliefs => 0x05
  | .readRecipe => 0x06 | .readNote => 0x07
  | .take => 0x10 | .release => 0x11 | .hand => 0x12 | .postNote => 0x13 | .setHold => 0x14
  | .setGap => 0x20 | .stepGap => 0x21 | .recallGap => 0x22 | .suspend => 0x23 | .resume => 0x24 | .go => 0x25
  | .flush => 0x26 | .calibrate => 0x27 | .clearBlock => 0x28
  | .setRate => 0x30 | .startFeed => 0x31 | .stopFeed => 0x32 | .startLine => 0x33
  | .applyRecipe => 0x40 | .abortChange => 0x41 | .saveRecipe => 0x42
  | .writeParams => 0x50 | .lockParams => 0x51 | .setMask => 0x52 | .clearMask => 0x53 | .clearConditions => 0x54
  | .subscribe => 0x55 | .lineReset => 0x5F

/-- Every request, in code order. -/
def ReqCode.every : List ReqCode :=
  [.echo, .readSlot, .readQueue, .readLine, .readReliefs, .readRecipe, .readNote, .take, .release, .hand, .postNote,
   .setHold, .setGap, .stepGap, .recallGap, .suspend, .resume, .go, .flush, .calibrate, .clearBlock, .setRate,
   .startFeed, .stopFeed, .startLine, .applyRecipe, .abortChange, .saveRecipe, .writeParams, .lockParams, .setMask,
   .clearMask, .clearConditions, .subscribe, .lineReset]

/-- The request a KIND byte names, when it is a request code (R173 step 2). -/
def ReqCode.ofByte (b : Byte) : Option ReqCode := ReqCode.every.find? (fun c => c.code == b)

/-- Disposition codes (section 11.5). -/
def Disposition.code : Disposition → Byte
  | .done => 0 | .doneAdjusted => 1 | .started => 2 | .queued => 3 | .partialDone => 4 | .failed => 5
  | .discarded => 6 | .refused => 7

/-- Reason codes (section 11.5). -/
def Reason.code : Reason → Byte
  | .noReason => 0x00 | .authority => 0x01 | .area => 0x02 | .localMode => 0x03 | .lockout => 0x04 | .lineStop => 0x05
  | .holdSpan => 0x06 | .blocked => 0x07 | .envelope => 0x08 | .reach => 0x09 | .queueFull => 0x0A
  | .queueNear => 0x0B | .notIdle => 0x0C | .notActive => 0x0D | .notSuspended => 0x0E | .nothingStaged => 0x0F
  | .empty => 0x10 | .busy => 0x11 | .storeBusy => 0x12 | .locked => 0x13 | .badSlot => 0x14 | .badKind => 0x15
  | .badValue => 0x16 | .boxFull => 0x17 | .timeout => 0x18 | .suspendExpired => 0x19 | .sensor => 0x1A
  | .noContact => 0x1B | .drainTimeout => 0x1C | .handover => 0x1D | .aborted => 0x1E | .flush => 0x1F
  | .relief => 0x20 | .trampRepeat => 0x21 | .calJump => 0x22 | .feederFault => 0x23 | .storeFault => 0x24

/-- Condition kind codes (section 11.2). -/
def Cond.code : Cond → Nat
  | .envelope => 0 | .reach => 1 | .levelInvalid => 2 | .powerInvalid => 3 | .binInvalid => 4 | .positionInvalid => 5
  | .calJump => 6 | .wearLimit => 7 | .moveTimeout => 8 | .suspendExpired => 9 | .drainTimeout => 10
  | .noContact => 11 | .feederFault => 12 | .trampRepeat => 13 | .storeFault => 14 | .paramFault => 15
  | .historyWrap => 16

/-- Notice kind codes (section 11.2). -/
def NoticeKind.code : NoticeKind → Nat
  | .moveEnd => 1 | .condition => 2 | .authority => 3 | .relief => 4 | .lineStop => 5 | .changeEnd => 6
  | .notePosted => 7 | .binState => 8 | .feederState => 9

/-- Port codes (section 11.2). -/
def Port.ofByte (b : Byte) : Option Port :=
  if b = 0 then some .plant else if b = 1 then some .stnA else if b = 2 then some .stnB else none

def Port.code : Port → Byte
  | .plant => 0 | .stnA => 1 | .stnB => 2

/-- The slot a SLOT byte names, 0..7. -/
def slotOfByte (b : Byte) : Option SlotId :=
  if h : b.toNat < 8 then some ⟨b.toNat, h⟩ else none

/-- Slot kinds, in the order of the table of section 1.2. -/
def Kind.ofByte (b : Byte) : Option Kind :=
  if b = 0 then some .unused else if b = 1 then some .jaw else if b = 2 then some .cone else if b = 3 then some .feeder
  else none

/-- Areas, in the order of R4's table. -/
def Area.ofByte (b : Byte) : Option Area :=
  if b = 0 then some .noArea else if b = 1 then some .a else if b = 2 then some .b else none

/-- BIN_REL, in the order of R5's table. -/
def BinRel.ofByte (b : Byte) : Option BinRel :=
  if b = 0 then some .neither else if b = 1 then some .fills else if b = 2 then some .draws else none

/-- Regulation modes: 0 FIXED, 1 LEVEL (R174). -/
def RegMode.ofByte (b : Byte) : Option RegMode :=
  if b = 0 then some .fixed else if b = 1 then some .level else none

/-- Lock modes, in the order of R130. -/
def LockMode.ofByte (b : Byte) : Option LockMode :=
  if b = 0 then some .openMode else if b = 1 then some .commissioned else if b = 2 then some .frozen
  else if b = 3 then some .fixed else none

/-- Change modes, in the order of R139's table. -/
def ChangeMode.ofByte (b : Byte) : Option ChangeMode :=
  if b = 0 then some .direct else if b = 1 then some .staged else none

/-- SENSE: normal, inverted (R4). AUTO_TRIM: off, on. The second value is `true`. -/
def flagOfByte (b : Byte) : Option Bool :=
  if b = 0 then some false else if b = 1 then some true else none

/-- LEVEL_IN and POWER_IN: yes, no (R4), so that code 0 is "yes". -/
def yesNoOfByte (b : Byte) : Option Bool :=
  if b = 0 then some true else if b = 1 then some false else none

end Sys2Proof.Machine
end

