-- ==== Sys2Proof/Machine/Crc.lean ====
section
/-! DEFINITION. The check value of frames and of stored records (R172, R180). -/

namespace Sys2Proof.Machine

open Sys2Proof

/-- One bit: the register is shifted left, and combined with 0x1021 when the bit shifted out differs from the data bit. -/
def crcBit (reg : Word16) (b : Bool) : Word16 := if reg.msb = b then reg <<< 1 else (reg <<< 1) ^^^ 0x1021

/-- One byte, most significant bit first. -/
def crcByte (reg : Word16) (x : Byte) : Word16 := [7, 6, 5, 4, 3, 2, 1, 0].foldl (fun reg k => crcBit reg (x.getLsbD k)) reg

/-- The CRC-16 of a row of bytes, from all ones. -/
def crc (bytes : List Byte) : Word16 := bytes.foldl crcByte 0xFFFF

end Sys2Proof.Machine
end

