-- ==== Sys2Proof/Machine/Defaults.lean ====
section
/-! DEFINITION. The values the manual gives after power-on and as defaults (the last columns of R4, R5, R7, R8, R62, R79, R96). -/

namespace Sys2Proof.Machine

open Sys2Proof

/-- The default column of R4. -/
def CrusherParams.default : CrusherParams where
  g := 819
  inverted := false
  pLo := 0
  pHi := 16383
  cm := 60
  envMin := 100
  envMax := 4095
  db := 4
  slowBand := 200
  settle := 2000
  travel := 120
  suspLimit := 600
  drainLimit := 90
  drainFixed := 30
  cavEmpty := 50
  wearMax := 300
  wearRate := 0
  trimStep := 5
  autoTrim := false
  calTol := 10
  reliefN := 3
  reliefWindow := 600
  restartDelay := 10
  linkedFeeder := none
  area := .noArea
  nearFull := 3
  levelIn := true
  powerIn := true

/-- The default column of R5. -/
def FeederParams.default : FeederParams where
  served := none
  binRel := .neither
  rMin := 150
  rMax := 900
  rampUp := 15
  rampDn := 40
  kl := 32
  kw := 48
  wLim := 900
  period := 500
  runConfirm := 3000
  capLow := 300
  capHigh := 300
  area := .noArea

/-- The defaults of R96. -/
def BinThresholds.default : BinThresholds where
  empty := 50
  low := 200
  high := 800
  full := 950
  hys := 20

/-- No cause (R42). -/
def Causes.zero : Causes := ⟨false, false, false, false⟩

/-- No inhibit reason (R8). -/
def Inhibits.zero : Inhibits := ⟨false, false, false, false, false⟩

/-- Every place EMPTY (R57); with depth 0, TOP names the sixth place, so that the first push fills the first (log 22). -/
def RecallStack.empty : RecallStack := ⟨none, none, none, none, none, none, 5⟩

/-- HOLD (section 10.5). -/
def DriveCmd.hold : DriveCmd := ⟨none, false, 0⟩

/-- The output driver after power-on (R167, R168). -/
def Driver.rest : Driver := ⟨.hold, none, false, none, none⟩

/-- An analog input with no valid sample yet (R162). -/
def Analog.unread : Analog := ⟨false, 0, none⟩

/-- A position channel after power-on, before its first sample (R164). -/
def PosChannel.unread : PosChannel := ⟨false, 0, none, none⟩

/-- A discrete input at rest, released and stable. -/
def Discrete.rest : Discrete := ⟨false, false, none⟩

/-- Working state of a crusher with the defaults for a bad record (R7, R16). -/
def Crusher.fresh (p : CrusherParams) : Crusher where
  tf := p.envMax
  motion := .idle
  queue := []
  move := none
  stack := .empty
  z := p.pHi
  w := 0
  acc := 0
  tonnes := 0
  wAtMove := 0
  lastCal := none
  wearBlock := false
  cal := none
  history := []
  episode := none
  travel := none
  settle := none
  suspension := none
  drainLimit := none
  fixedDrain := none
  restart := none

/-- Working state of a feeder with the defaults for a bad record (R8, R16). -/
def Feeder.fresh (p : FeederParams) : Feeder where
  run := .stopped
  inhibits := .zero
  rb := p.rMin
  mode := .fixed
  ls := 500
  r := 0
  rPrev := 0
  seed := true
  regTimer := none
  confirmTimer := none
  paramFault := false

/-- A slot of kind NONE in lock mode OPEN with nothing recorded, its channel group unread. -/
def Slot.blank : Slot where
  kind := .unused
  cp := .default
  fp := .default
  lock := .openMode
  preFreeze := .openMode
  unusedFault := false
  holder := none
  conds := 0
  mask := 0
  crusher := Crusher.fresh .default
  feeder := Feeder.fresh .default
  lockout := .rest
  relief := .rest
  running := .rest
  level := .unread
  power := .unread
  position := .unread
  lastEdge := none
  driver := .rest

/-- The subscription set that holds all nine kinds (R158): bits 1 to 9. -/
def NoticeSet.every : NoticeSet := 0x3FE

/-- A port after power-on start-up (R132, R158 to R160, R171, R173, R176). -/
def PortState.fresh : PortState where
  reqno := 0
  asm := .hunt
  tx := []
  notices := []
  overrun := false
  subs := NoticeSet.every
  sending := none
  noticeTurn := false
  note := none

/-- The parameter record of a slot that was never commissioned: kind NONE, OPEN. -/
def ParamImage.blank : ParamImage := ⟨.unused, .default, .default, .openMode, .openMode⟩

/-- A calibration record with no field in use (R180): what it loads as in a crusher, log 53. -/
def CalImage.blank : CalImage := ⟨16383, none⟩

/-- A wear record with no field in use (R180): what it loads as in a slot of another kind, log 53. -/
def WearImage.blank : WearImage := ⟨4095, 0, 0, 0, 0, 150, .fixed, 500⟩

/-- The check value of a record's contents (R172, R180; the layout of the contents in bytes, log 33). -/
def Image.check (x : Image) : Word16 := crc (Config.storeLayout x)

/-- The store of a part that was never commissioned: every check value good, every slot of kind NONE, default bin thresholds, every
recipe record invalid. DESIGN CHOICE (log 1): the manual gives the store no contents of its own. -/
def Nonvolatile.blank : Nonvolatile where
  params := .all ⟨.blank, (Image.param .blank).check⟩
  cals := .all ⟨.blank, (Image.cal .blank).check⟩
  wears := .all ⟨.blank, (Image.wear .blank).check⟩
  line := ⟨.default, (Image.line .default).check⟩
  recipes := .all ⟨none, (Image.recipe none).check⟩

/-- The bin monitor after a start-up whose scan found no valid bin level (R96). -/
def Bin.unread : Bin := ⟨.unknown, .default, 0, ⟨false, 0, some 0⟩⟩

end Sys2Proof.Machine
end

