-- ==== Sys2Proof/Machine/State.lean ====
section
/-! DEFINITION. The state of the LSC-8: the machine table with its working state and channel groups, the line, the link ports, the
parameter store, the clock, and the queue of commands that wait; the reasons a step can stop; and the part as start-up leaves it. -/

namespace Sys2Proof.Machine

open Sys2Proof

/-- No command of the LSC-8 stops the machine: the manual gives every request, input event and timer expiry an effect (a refusal of a
request is a reply, R120), so there is no fault, safe or unsafe, and nothing raises one. -/
inductive Fault where
  deriving DecidableEq, Repr

/-- Why a step could find no meaning for a command. -/
inductive Refusal where
  /-- Raised only by an arm of `exec` whose command has no meaning yet (none is left); safe, since nothing can then be proved
  of that command's effect. -/
  | notModelled (mnemonic : String)
  deriving DecidableEq, Repr

/-- The whole part. `clock` is in ms since power-on; the line clock is its whole seconds. `replies` are the pending final replies
that wait for store writes (R181). `recipes` are the working copies. `freeDraws` is the MODEL's own counter of free values
drawn, and `pending` the MODEL's own queue of commands that wait, first in, first out. -/
structure State where
  phase : Phase
  clock : Nat
  slots : PerSlot Slot
  bin : Bin
  lineStop : Discrete
  selectorA : Discrete
  selectorB : Discrete
  rateStrap : Bool
  portBStrap : Bool
  hold : Option Hold
  change : Option Change
  lastChangeId : Nat
  lineConds : CondSet
  ports : PerPort PortState
  store : Nonvolatile
  dirty : BitVec 33
  writing : Option StoreWrite
  replies : List PendingReply
  recipes : PerSlot (Option Recipe)
  freeDraws : Nat
  pending : List Instr
  deriving DecidableEq, Repr, Inhabited

/-- The part as power-on start-up leaves it (R183 and the columns "after power-on"), on a store that was never commissioned, with
every input at rest, the bin level invalid and the straps open (log 1). -/
def State.reset : State where
  phase := .running
  clock := 0
  slots := .all .blank
  bin := .unread
  lineStop := .rest
  selectorA := .rest
  selectorB := .rest
  rateStrap := false
  portBStrap := false
  hold := none
  change := none
  lastChangeId := 0
  lineConds := 0
  ports := ⟨.fresh, .fresh, .fresh⟩
  store := .blank
  dirty := 0
  writing := none
  replies := []
  recipes := .all none
  freeDraws := 0
  pending := []

end Sys2Proof.Machine
end

