-- ==== Sys2Proof/Machine/Flags.lean ====
section
/-! DEFINITION. Flags: the FLAGS byte of a request, condition kinds with their classes and scopes, condition sets, response masks,
summaries, inhibit sets and suspension cause sets. -/

namespace Sys2Proof.Machine

open Sys2Proof

end Sys2Proof.Machine

namespace Sys2Proof

/-! ### The FLAGS byte (section 11.2, R173) -/

/-- Bit 0: ack-wanted. -/
def Request.ackWanted (r : Request) : Bool := r.flags.getLsbD 0
/-- Bit 1: priority. -/
def Request.priority (r : Request) : Bool := r.flags.getLsbD 1
/-- Bit 2: staged. -/
def Request.staged (r : Request) : Bool := r.flags.getLsbD 2

end Sys2Proof

namespace Sys2Proof.Machine

open Sys2Proof

/-! ### Condition kinds (section 9.1) -/

/-- The seventeen kinds. -/
def Cond.every : List Cond :=
  [.envelope, .reach, .levelInvalid, .powerInvalid, .binInvalid, .positionInvalid, .calJump, .wearLimit, .moveTimeout,
   .suspendExpired, .drainTimeout, .noContact, .feederFault, .trampRepeat, .storeFault, .paramFault, .historyWrap]

/-- The class column. -/
def Cond.cls : Cond → CondClass
  | .envelope | .reach | .levelInvalid | .powerInvalid | .binInvalid | .positionInvalid | .calJump | .wearLimit => .maskable
  | .moveTimeout | .suspendExpired | .drainTimeout | .noContact | .feederFault | .trampRepeat | .storeFault
  | .paramFault => .fault
  | .historyWrap => .informational

def CondSet.mem (s : CondSet) (k : Cond) : Bool := s.getLsbD k.code
def CondSet.insert (s : CondSet) (k : Cond) : CondSet := s ||| BitVec.twoPow 17 k.code
def CondSet.erase (s : CondSet) (k : Cond) : CondSet := s &&& ~~~ BitVec.twoPow 17 k.code
def CondSet.ofList (l : List Cond) : CondSet := l.foldl CondSet.insert 0

/-- The maskable kinds a mask of this kind of slot can hold (R154). -/
def Kind.maskable : Kind → CondSet
  | .jaw | .cone => CondSet.ofList [.envelope, .reach, .positionInvalid, .calJump, .wearLimit]
  | .feeder => CondSet.ofList [.envelope, .levelInvalid, .powerInvalid, .binInvalid]
  | .unused => 0

/-- The default mask (R154). -/
def Kind.defaultMask : Kind → CondSet
  | .jaw | .cone => CondSet.ofList [.envelope, .positionInvalid, .wearLimit]
  | .feeder => CondSet.ofList [.envelope, .levelInvalid, .powerInvalid, .binInvalid]
  | .unused => 0

/-- The value a condition set gives a summary (R153). -/
def CondSet.summary (s : CondSet) : Summary :=
  if Cond.every.any (fun k => s.mem k && k.cls == .fault) then .fault
  else if Cond.every.any (fun k => s.mem k && k.cls == .maskable) then .warning
  else if s.mem .historyWrap then .info
  else .clear

def Summary.rank : Summary → Nat
  | .clear => 0 | .info => 1 | .warning => 2 | .fault => 3

/-- The more severe of two summaries (R153). -/
def Summary.worse (a b : Summary) : Summary := if a.rank < b.rank then b else a

/-- The slot summary (R153). -/
def Slot.summary (x : Slot) : Summary := x.conds.summary

/-- The line summary (R153). -/
def State.lineSummary (s : State) : Summary :=
  slotIds.foldl (fun m i => m.worse (s.slots.get i).summary) s.lineConds.summary

/-! ### Inhibit sets (section 6.3) -/

def Inhibits.mem (s : Inhibits) : Inhibit → Bool
  | .relief => s.relief | .recoveryDelay => s.recoveryDelay | .drain => s.drain | .calibrate => s.calibrate
  | .lockout => s.lockout

def Inhibits.put (s : Inhibits) (r : Inhibit) (b : Bool) : Inhibits :=
  match r with
  | .relief => { s with relief := b } | .recoveryDelay => { s with recoveryDelay := b }
  | .drain => { s with drain := b } | .calibrate => { s with calibrate := b } | .lockout => { s with lockout := b }

/-- Whether no reason stands. -/
def Inhibits.isEmpty (s : Inhibits) : Bool :=
  !(s.relief || s.recoveryDelay || s.drain || s.calibrate || s.lockout)

/-! ### Suspension cause sets (R48) -/

def Causes.put (s : Causes) (c : Cause) (b : Bool) : Causes :=
  match c with
  | .request => { s with request := b } | .sensor => { s with sensor := b }
  | .lineStop => { s with lineStop := b } | .handover => { s with handover := b }

/-- Whether no cause stands. -/
def Causes.isEmpty (s : Causes) : Bool := !(s.request || s.sensor || s.lineStop || s.handover)

/-! ### Sets of slots -/

/-- The slots of a slot set, in slot order (section 11.2). -/
def SlotSet.slots (s : SlotSet) : List SlotId := slotIds.filter (fun i => s.getLsbD i.val)

/-- The slot set of a list of slots. -/
def SlotSet.ofList (l : List SlotId) : SlotSet := l.foldl (fun s i => s ||| BitVec.twoPow 8 i.val) 0

end Sys2Proof.Machine
end

