-- ==== Sys2Proof/Machine/Ops.lean ====
section
/-! DEFINITION. The shared operations: reading and changing slots, the clock and timers, recording conditions, raising notices and
replies and delivering them to the ports when the event ends, marking store records dirty. -/

namespace Sys2Proof.Machine

open Sys2Proof

/-! ### Reading the state -/

/-- The line clock: seconds since power-on (section 5.1). -/
def State.lineClock (s : State) : Nat := s.clock / 1000

/-- Whether the slot is of kind JAW or CONE. -/
def Kind.isCrusher : Kind → Bool
  | .jaw | .cone => true
  | _ => false

/-- The AREA of a slot; a slot of kind NONE lies in no area (R3). -/
def Slot.area (x : Slot) : Area :=
  match x.kind with
  | .jaw | .cone => x.cp.area
  | .feeder => x.fp.area
  | .unused => .noArea

/-- The station whose area this is. -/
def Area.station : Area → Option Port
  | .noArea => none
  | .a => some .stnA
  | .b => some .stnB

/-- Whether a port is enabled: the port B strap disables station port B (R170). -/
def State.enabled (s : State) : Port → Bool
  | .stnB => !s.portBStrap
  | _ => true

/-- Whether a port's station has its selector at LOCAL. Selector B reads REMOTE while port B is disabled (R118). -/
def State.selectorLocal (s : State) : Port → Bool
  | .plant => false
  | .stnA => s.selectorA.state
  | .stnB => s.selectorB.state && !s.portBStrap

/-- The station that has this slot's area under LOCAL, when there is one (R3, R124). -/
def State.localStation (s : State) (i : SlotId) : Option Port :=
  match (s.slots.get i).area.station with
  | some p => if s.selectorLocal p then some p else none
  | none => none

/-- The held set of a hold span record (R128). -/
def Hold.holds (h : Hold) (i : SlotId) : Bool :=
  (if h.down then decide (h.anchor ≤ i) else decide (i ≤ h.anchor)) != h.complement

/-- Whether a slot lies in the held set (R128). -/
def State.held (s : State) (i : SlotId) : Bool :=
  match s.hold with
  | none => false
  | some h => h.holds i

/-- The held set as a slot set. -/
def State.heldSet (s : State) : SlotSet := SlotSet.ofList (slotIds.filter s.held)

/-- The number of a store record (R180). -/
def RecId.number : RecId → Nat
  | .param s => 3 * s.val
  | .cal s => 3 * s.val + 1
  | .wear s => 3 * s.val + 2
  | .line => 24
  | .recipe n => 25 + n.val

/-- The record names in number order. -/
def RecId.every : List RecId :=
  slotIds.flatMap (fun s => [.param s, .cal s, .wear s]) ++ [.line] ++ slotIds.map .recipe

/-- Whether a write of this record is in progress (R181). -/
def State.isWriting (s : State) (r : RecId) : Bool :=
  match s.writing with
  | some w => r == w.record
  | none => false

/-- Whether a record is dirty. -/
def State.isDirty (s : State) (r : RecId) : Bool := s.dirty.getLsbD r.number

/-! ### Timers -/

/-- The time a timer has left, in ms. -/
def State.remaining (s : State) : Timer → Option Nat
  | some t => some (t - s.clock)
  | none => none

/-- The clock stands at `t` or later: what an expiry or a periodic sample tells of the time (log 3). -/
def State.reach (s : State) (t : Nat) : State := { s with clock := max s.clock t }

/-! ### Events -/

/-- A reply raised by an event: the port it is for, and whether it is the immediate reply of the request taken. -/
structure Raised where
  port : Port
  immediate : Bool
  reply : Reply
  deriving DecidableEq, Repr

/-- An event in progress: the state so far and, in order, the notices and replies it has raised. They join the ports' queues when
the event ends (`Ev.commit`). -/
structure Ev where
  s : State
  notices : List Notice
  replies : List Raised
  deriving DecidableEq, Repr

def Ev.of (s : State) : Ev := ⟨s, [], []⟩

def Ev.slot (ev : Ev) (i : SlotId) : Slot := ev.s.slots.get i
def Ev.crusher (ev : Ev) (i : SlotId) : Crusher := (ev.slot i).crusher
def Ev.feeder (ev : Ev) (i : SlotId) : Feeder := (ev.slot i).feeder
def Ev.now (ev : Ev) : Nat := ev.s.clock

/-- A timer started with a duration in ms. -/
def Ev.timer (ev : Ev) (ms : Nat) : Timer := some (ev.s.clock + ms)

def State.modSlot (s : State) (i : SlotId) (f : Slot → Slot) : State :=
  { s with slots := s.slots.set i (f (s.slots.get i)) }

def Ev.onState (ev : Ev) (f : State → State) : Ev := { ev with s := f ev.s }

def Ev.modSlot (ev : Ev) (i : SlotId) (f : Slot → Slot) : Ev := ev.onState (fun s => s.modSlot i f)

def Ev.modCrusher (ev : Ev) (i : SlotId) (f : Crusher → Crusher) : Ev :=
  ev.modSlot i (fun x => { x with crusher := f x.crusher })

def Ev.modFeeder (ev : Ev) (i : SlotId) (f : Feeder → Feeder) : Ev :=
  ev.modSlot i (fun x => { x with feeder := f x.feeder })

/-- Do something at each slot of a list, in order. -/
def Ev.each (ev : Ev) (l : List SlotId) (f : Ev → SlotId → Ev) : Ev := l.foldl f ev

/-- Raise a notice: its header time is the line-clock time of the event (section 9.5). -/
def Ev.notify (ev : Ev) (slot : Option SlotId) (body : NoticeBody) : Ev :=
  { ev with notices := ev.notices ++ [⟨ev.s.lineClock, slot, body⟩] }

/-- Record a condition in a slot's set; the CONDITION notice is raised only when the kind was absent (R152, R157). -/
def Ev.record (ev : Ev) (i : SlotId) (k : Cond) : Ev :=
  if (ev.slot i).conds.mem k then ev
  else
    let ev := ev.modSlot i (fun x => { x with conds := x.conds.insert k })
    let masked := if k.cls = .maskable then some ((ev.slot i).mask.mem k) else none
    ev.notify (some i) (.condition k masked (ev.slot i).conds (some (ev.slot i).summary) ev.s.lineSummary)

/-- Record STORE_FAULT in the line set (R151, R152). -/
def Ev.recordLine (ev : Ev) : Ev :=
  if ev.s.lineConds.mem .storeFault then ev
  else
    let ev := ev.onState (fun s => { s with lineConds := s.lineConds.insert .storeFault })
    ev.notify none (.condition .storeFault none ev.s.lineConds none ev.s.lineSummary)

/-- Whether a slot answers a condition kind with its masked response (R154). -/
def Ev.masked (ev : Ev) (i : SlotId) (k : Cond) : Bool := (ev.slot i).mask.mem k

/-- Mark a store record dirty (R180). -/
def Ev.markDirty (ev : Ev) (r : RecId) : Ev :=
  ev.onState (fun s => { s with dirty := s.dirty ||| BitVec.twoPow 33 r.number })

/-- Raise a final reply to an origin, when its ack-wanted mark is set (R175). -/
def Ev.finalReply (ev : Ev) (p : Port) (ack : Bool) (reply : Reply) : Ev :=
  if ack then { ev with replies := ev.replies ++ [⟨p, false, reply⟩] } else ev

/-- Raise the immediate reply at a place among the event's replies (R173, R176). -/
def Ev.immediateAt (ev : Ev) (k : Nat) (p : Port) (reply : Reply) : Ev :=
  { ev with replies := ev.replies.take k ++ ⟨p, true, reply⟩ :: ev.replies.drop k }

/-! ### The end of an event -/

/-- The replies of an event that find a place, when `free` places are left beside the one kept for the immediate reply (R176). -/
def joinReplies : Nat → List Raised → List Reply
  | _, [] => []
  | free, r :: rs =>
    if r.immediate then r.reply :: joinReplies free rs
    else
      match free with
      | 0 => joinReplies 0 rs
      | n + 1 => r.reply :: joinReplies n rs

/-- The port a NOTE_POSTED notice is offered to; every other notice is offered to all (R158). -/
def Notice.offeredTo (n : Notice) (p : Port) : Bool :=
  match n.body with
  | .notePosted q _ _ _ => p == q
  | _ => true

def NoticeBody.kind : NoticeBody → NoticeKind
  | .moveEnd .. => .moveEnd | .condition .. => .condition | .authority .. => .authority | .relief .. => .relief
  | .lineStop .. => .lineStop | .changeEnd .. => .changeEnd | .notePosted .. => .notePosted
  | .binState .. => .binState | .feederState .. => .feederState

/-- A notice joins the tail of a port's notice queue, or is dropped and sets the overrun mark (R158, R159, R160). -/
def PortState.join (q : PortState) (p : Port) (n : Notice) : PortState :=
  if q.subs.getLsbD n.body.kind.code && n.offeredTo p then
    if q.notices.length < Config.noticePlaces then { q with notices := q.notices ++ [n] } else { q with overrun := true }
  else q

/-- What an event's replies and notices make of a port (R158, R159, R176). -/
def PortState.deliver (q : PortState) (p : Port) (enabled : Bool) (notices : List Notice) (replies : List Raised) :
    PortState :=
  if enabled then
    let mine := replies.filter (fun r => r.port == p)
    let kept := (mine.filter (·.immediate)).length
    let q1 := { q with tx := q.tx ++ joinReplies (Config.txPlaces - q.tx.length - kept) mine }
    let q2 := notices.foldl (fun q n => q.join p n) q1
    let idle := q.sending.isNone && q.tx.isEmpty && q.notices.isEmpty
    { q2 with noticeTurn := q2.noticeTurn || (idle && q2.tx.isEmpty && !q2.notices.isEmpty) }
  else q

/-- The end of an event: what it raised joins the ports' queues. Nothing is queued before start-up has ended (R159, R183). -/
def Ev.commit (ev : Ev) : State :=
  if ev.s.phase = .running then
    { ev.s with
      ports := PerPort.of (fun p => (ev.s.ports.get p).deliver p (ev.s.enabled p) ev.notices ev.replies) }
  else ev.s

/-- The outcome of a command whose event is `f`, for a part that has ended its start-up; before that the command finds nothing. -/
def whenRunning (s : State) (f : Ev → Ev) : Host.Outcome State Fault Refusal :=
  if s.phase = .running then .next (f (Ev.of s)).commit else .next s

end Sys2Proof.Machine
end

