-- ==== Sys2Proof/Machine/Calculator.lean ====
section
/-! DEFINITION. The setting calculator (chapter 2): divisions, conversions, gaps, the close limit, the target computation, the
envelope check and the computation for the report. -/

namespace Sys2Proof.Machine

open Sys2Proof

/-- Rounded division: an exact half goes up (R19). -/
def roundedDiv (n d : Nat) : Nat := if 2 * (n % d) ≥ d then n / d + 1 else n / d

/-- The counts of a length in dmm (R20). -/
def countsOf (g d : Nat) : Nat := roundedDiv (d * 4096) g

/-- The gap of a count difference (R20). -/
def gapOf (g n : Nat) : Nat := roundedDiv (n * g) 4096

/-- The geometric gap at a position (R21). -/
def geometricGap (g z p : Nat) : Nat := if p ≤ z then gapOf g (z - p) else 0

/-- The estimated gap (R22). -/
def estimatedGap (g z w p : Nat) : Nat := min (geometricGap g z p + w) 4095

/-- The close limit (R23). -/
def closeLimitOf (c : CrusherParams) (z : Nat) : Int := min (c.pHi : Int) ((z : Int) - (countsOf c.g c.cm : Int))

/-- What the target computation gives: the target position, absent when the computation ended at a REACH; whether any stage raised
REACH (so that, with a target, a stage adjusted it). -/
structure Target where
  pos : Option Nat
  reach : Bool
  deriving DecidableEq, Repr

/-- Stage 6, the close stage (R27). -/
def closeStage (c : CrusherParams) (z : Nat) (masked reach : Bool) (pt : Int) : Target :=
  let cl := closeLimitOf c z
  if pt > cl then
    if cl < c.pLo then ⟨none, true⟩
    else if masked then ⟨some cl.toNat, true⟩
    else ⟨none, true⟩
  else ⟨some pt.toNat, reach⟩

/-- Stage 5, the travel stage, and on (R26). -/
def travelStage (c : CrusherParams) (z : Nat) (masked reach : Bool) (pt : Int) : Target :=
  if pt < c.pLo then
    if masked then closeStage c z masked true c.pLo else ⟨none, true⟩
  else closeStage c z masked reach pt

/-- Stages 3 and 4, and on, for a T_g of at least 0 (R24). -/
def offsetStage (c : CrusherParams) (z : Nat) (masked reach : Bool) (tg : Nat) : Target :=
  travelStage c z masked reach ((z : Int) - (countsOf c.g tg : Int))

/-- The target computation for a gap `t` (R24), with the CM stage (R25). -/
def targetFor (c : CrusherParams) (z w : Nat) (masked : Bool) (t : Nat) : Target :=
  let tg : Int := (t : Int) - (w : Int)
  if tg < c.cm then
    if masked then offsetStage c z masked true c.cm else ⟨none, true⟩
  else offsetStage c z masked false tg.toNat

/-- P_tf for the report: any REACH gives none, whatever the mask (R34). -/
def reportTarget (c : CrusherParams) (z w t : Nat) : Option Nat := (targetFor c z w false t).pos

/-- The relation of a crusher to its target in force (R18). -/
def relationOf (c : CrusherParams) (z w tf : Nat) (pos : PosChannel) : Relation :=
  match pos.valid, pos.last, reportTarget c z w tf with
  | true, some p, some pt =>
    if (p : Int) < pt - c.db then .openOf
    else if (p : Int) > pt + c.db then .closedOf
    else .within
  | _, _, _ => .unordered

/-- What the envelope check gives a gap (R30): whether it lies inside, and the gap clamped into the envelope. -/
structure EnvelopeCheck where
  inside : Bool
  clamped : Nat
  deriving DecidableEq, Repr

def envelopeCheck (c : CrusherParams) (t : Int) : EnvelopeCheck :=
  if t < c.envMin then ⟨false, c.envMin⟩
  else if t > c.envMax then ⟨false, c.envMax⟩
  else ⟨true, t.toNat⟩

/-- Clamp into [a, b] (section 5.3). -/
def clampNat (a b x : Nat) : Nat := if x < a then a else if x > b then b else x

/-- The close limit of a slot's crusher, from its working copy (R23). -/
def Slot.closeLimit (x : Slot) : Int := closeLimitOf x.cp x.crusher.z

/-- The zero point a calibration predicts, and the jump of a contact from it, in dmm (R89). -/
def predictedZero (g z w : Nat) : Nat := z + countsOf g w

def jumpOf (g zNew zPred : Nat) : Nat := gapOf g (max zNew zPred - min zNew zPred)

/-- Where a position lies against a target with its deadband (R44). -/
inductive Toward where
  | arrived
  | drive (d : Dir)
  deriving DecidableEq, Repr

def toward (p : Nat) (target : Int) (db : Nat) : Toward :=
  if (p : Int) < target - db then .drive .closing
  else if (p : Int) > target + db then .drive .opening
  else .arrived

/-- Whether a position lies within a distance of a target. -/
def near (p : Nat) (target : Int) (d : Nat) : Bool := decide (target - d ≤ p) && decide ((p : Int) ≤ target + d)

end Sys2Proof.Machine
end

