-- ==== Sys2Proof/Machine/Drive.lean ====
section
/-! DEFINITION. The crusher output drivers (R167, R168) and the commands the motion controllers give them (R44). -/

namespace Sys2Proof.Machine

open Sys2Proof

/-- The close guard: CLOSE stands only while the position channel is VALID and its last valid position lies below the limit of the
command (R167). -/
def PosChannel.below (c : PosChannel) (limit : Int) : Bool :=
  match c.valid, c.last with
  | true, some p => decide ((p : Int) < limit)
  | _, _ => false

/-- The direction a command asks for once the close guard has been applied (R167). -/
def DriveCmd.wanted (c : DriveCmd) (pos : PosChannel) : Option Dir :=
  match c.dir with
  | none => none
  | some .opening => some .opening
  | some .closing => if pos.below c.limit then some .closing else none

/-- A direction that turns off becomes the last direction and starts the dwell (R168). -/
def Driver.turnOff (d : Driver) (now : Nat) : Driver :=
  match d.out with
  | none => d
  | some x => { d with out := none, outSlow := false, last := some x, dwell := some (now + Config.dwellMs) }

/-- Set the outputs from the command, the close guard and the dwell (R167, R168). -/
def Driver.settle (d : Driver) (now : Nat) (pos : PosChannel) : Driver :=
  let want := d.cmd.wanted pos
  if d.out = want then { d with outSlow := want.isSome && d.cmd.slow }
  else
    let d := d.turnOff now
    match want with
    | none => d
    | some x =>
      if d.last = some x ∨ d.last = none ∨ d.dwell = none then { d with out := some x, outSlow := d.cmd.slow } else d

/-- Give a drive command; the driver re-tests at each command (R167). -/
def Slot.command (x : Slot) (now : Nat) (c : DriveCmd) : Slot :=
  { x with driver := { x.driver with cmd := c }.settle now x.position }

def Ev.setDrive (ev : Ev) (i : SlotId) (c : DriveCmd) : Ev := ev.modSlot i (fun x => x.command ev.now c)

/-- The drive at HOLD. -/
def Ev.holdDrive (ev : Ev) (i : SlotId) : Ev := ev.setDrive i .hold

/-- Re-test the driver, at a delivery of the position channel or a dwell expiry (R167, R168). -/
def Ev.retestDrive (ev : Ev) (i : SlotId) : Ev :=
  ev.modSlot i (fun x => { x with driver := x.driver.settle ev.now x.position })

/-- Drive toward a target from a position outside its deadband: SLOW within SLOW_BAND (R44), or throughout where `slowly`
(R69, R90). With CLOSE goes CL, the close limit in force outside the APPROACH stage (R167). -/
def Ev.driveTo (ev : Ev) (i : SlotId) (slowly : Bool) (p : Nat) (target : Int) (d : Dir) : Ev :=
  let x := ev.slot i
  ev.setDrive i ⟨some d, slowly || near p target x.cp.slowBand, if d = .closing then x.closeLimit else 0⟩

/-- The drive of REOPEN and BACKOFF: where the comparison calls for CLOSE at a reading at or above CL, the drive holds (R90, R92). -/
def Ev.driveGuarded (ev : Ev) (i : SlotId) (slowly : Bool) (p : Nat) (target : Int) (d : Dir) : Ev :=
  if d = .closing ∧ (p : Int) ≥ (ev.slot i).closeLimit then ev.holdDrive i else ev.driveTo i slowly p target d

/-! ### Feeder outputs (R169) -/

/-- The rate-reference loop current in µA: 4 mA + R × 16 mA / 1000 (R169). -/
def Slot.loopMicroamps (x : Slot) : Nat := if x.kind = .feeder then 4000 + 16 * x.feeder.r else 4000

/-- The RUN contact: closed while RUNNING (R116, R169). -/
def Slot.runOutput (x : Slot) : Bool := x.kind == .feeder && x.feeder.run == .running

end Sys2Proof.Machine
end

