-- ==== Sys2Proof/Machine/Feed.lean ====
section
/-! DEFINITION. The feed regulators and the surge-bin monitor as shared operations (chapter 6): run states, inhibit sets, the base
rate, the regulation computation and the bin states. -/

namespace Sys2Proof.Machine

open Sys2Proof

/-! ### FEEDER_STATE notices (R117) -/

/-- Whether a notice is a FEEDER_STATE of a slot. -/
def Notice.isFeederState (n : Notice) (i : SlotId) : Bool :=
  match n.body with
  | .feederState .. => n.slot == some i
  | _ => false

/-- Whether a cause is one of a change of run state (R117). -/
def FeederCause.ofRun : FeederCause → Bool
  | .raised _ | .lowered _ => false
  | _ => true

/-- The cause that a FEEDER_STATE notice of a slot carries for a change of run state. -/
def Notice.runCause (n : Notice) (i : SlotId) : Option FeederCause :=
  match n.body with
  | .feederState _ _ _ cause => if n.slot == some i && cause.ofRun then some cause else none
  | _ => none

/-- One notice in the place of all that a test picks: the first of them with another body, the others gone. -/
def oneNotice (p : Notice → Bool) (body : NoticeBody) : List Notice → List Notice
  | [] => []
  | n :: ns => if p n then { n with body := body } :: ns.filter (fun m => !p m) else n :: oneNotice p body ns

/-- What a FEEDER_STATE notice carries of a feeder (R117). -/
def Feeder.noticeBody (f : Feeder) (cause : FeederCause) : NoticeBody := .feederState f.run f.inhibits f.r cause

/-- A FEEDER_STATE notice of a change (R117). -/
def Ev.feederNotice (ev : Ev) (i : SlotId) (cause : FeederCause) : Ev := ev.notify (some i) ((ev.feeder i).noticeBody cause)

/-- The one FEEDER_STATE notice of an event that changes both: it carries the state after the event, in the place of the first that the
event has raised for the feeder (R117; that place and the cause, log 7). -/
def Ev.mergedNotice (ev : Ev) (i : SlotId) (cause : FeederCause) : Ev :=
  if ev.notices.any (·.isFeederState i) then
    { ev with notices := oneNotice (·.isFeederState i) ((ev.feeder i).noticeBody cause) ev.notices }
  else ev.feederNotice i cause

/-- The notice of a change of an inhibit set: one of its own, but at an event that has changed the run state too (R117, log 7). -/
def Ev.inhibitNotice (ev : Ev) (i : SlotId) (cause : FeederCause) : Ev :=
  match ev.notices.findSome? (·.runCause i) with
  | some run => ev.mergedNotice i run
  | none => ev.feederNotice i cause

/-! ### Run states (R100) -/

/-- The columns of R100's table for an entry to a run state. -/
def Feeder.enter (f : Feeder) (r : RunState) (reg confirm : Timer) : Feeder :=
  { f with run := r, r := 0, rPrev := 0, regTimer := reg, confirmTimer := confirm, seed := true }

/-- A feeder enters a run state; a change of run state sends a FEEDER_STATE notice (R100, R117). -/
def Ev.enterRun (ev : Ev) (i : SlotId) (r : RunState) (cause : FeederCause) : Ev :=
  let before := (ev.feeder i).run
  let p := (ev.slot i).fp
  let ev :=
    match r with
    | .running => ev.modFeeder i (·.enter .running (ev.timer p.period) (ev.timer p.runConfirm))
    | r => ev.modFeeder i (·.enter r none none)
  if before = r then ev else ev.mergedNotice i cause

/-! ### Inhibit sets (R108) -/

/-- A reason joins the set; from empty to non-empty, R and R_prev become 0 and the seed is set at once (R108). -/
def Feeder.raise (f : Feeder) (r : Inhibit) : Feeder :=
  if f.inhibits.isEmpty then { f with inhibits := f.inhibits.put r true, r := 0, rPrev := 0, seed := true }
  else { f with inhibits := f.inhibits.put r true }

/-- A reason leaves the set; no output changes (R108). -/
def Feeder.lower (f : Feeder) (r : Inhibit) : Feeder := { f with inhibits := f.inhibits.put r false }

def Ev.raise (ev : Ev) (i : SlotId) (r : Inhibit) : Ev :=
  if (ev.feeder i).inhibits.mem r then ev
  else (ev.modFeeder i (·.raise r)).inhibitNotice i (.raised r)

def Ev.lower (ev : Ev) (i : SlotId) (r : Inhibit) : Ev :=
  if (ev.feeder i).inhibits.mem r then (ev.modFeeder i (·.lower r)).inhibitNotice i (.lowered r) else ev

/-- Raise a reason on the feeder linked to a crusher; with none linked, nothing is raised (R6). -/
def Ev.raiseLinked (ev : Ev) (i : SlotId) (r : Inhibit) : Ev :=
  match (ev.slot i).cp.linkedFeeder with
  | some f => ev.raise f r
  | none => ev

def Ev.lowerLinked (ev : Ev) (i : SlotId) (r : Inhibit) : Ev :=
  match (ev.slot i).cp.linkedFeeder with
  | some f => ev.lower f r
  | none => ev

/-- A crusher's lockout raises LOCKOUT on its linked feeder, in place of the reasons it has lowered there: one notice (R54, R117). -/
def Ev.lockLinked (ev : Ev) (i : SlotId) : Ev :=
  match (ev.slot i).cp.linkedFeeder with
  | some f =>
    if (ev.feeder f).inhibits.mem .lockout then ev
    else (ev.modFeeder f (·.raise .lockout)).mergedNotice f (.raised .lockout)
  | none => ev

/-- The notices of a crusher's lockout about its linked feeder as one, with the state after the event (R117, log 7). -/
def Ev.mergeLinked (ev : Ev) (i : SlotId) : Ev :=
  match (ev.slot i).cp.linkedFeeder with
  | some f => if ev.notices.any (·.isFeederState f) then ev.mergedNotice f (.raised .lockout) else ev
  | none => ev

/-! ### Setting the base rate (R109) -/

/-- The LOCKOUT, HOLD_SPAN and BLOCKED checks of SET_RATE (R109 steps 2 to 4). -/
def Ev.rateGate (ev : Ev) (i : SlotId) : Option Reason :=
  let x := ev.slot i
  if x.lockout.state then some .lockout
  else if ev.s.held i then some .holdSpan
  else if x.feeder.paramFault then some .blocked
  else none

/-- The ENVELOPE check of SET_RATE (R109 step 6). -/
def Ev.rateEnvelope (ev : Ev) (i : SlotId) (rb : Nat) : Option Reason :=
  let p := (ev.slot i).fp
  if (rb < p.rMin ∨ rb > p.rMax) ∧ !ev.masked i .envelope then some .envelope else none

/-- The refusal of SET_RATE from its LOCKOUT check on, for values already in range (R109, R142). -/
def Ev.rateRefusal (ev : Ev) (i : SlotId) (rb : Nat) : Option Reason := (ev.rateGate i).or (ev.rateEnvelope i rb)

/-- The effects of an accepted SET_RATE (R109). -/
def Ev.writeRate (ev : Ev) (i : SlotId) (rb : Nat) (mode : RegMode) (ls : Nat) : Ev :=
  let x := ev.slot i
  let f := x.feeder
  let rb' := clampNat x.fp.rMin x.fp.rMax rb
  let ev := ev.modFeeder i (fun f =>
    { f with rb := rb', mode := mode, ls := ls, seed := f.seed || (f.mode == .fixed && mode == .level) })
  let ev := if rb' = rb then ev else ev.record i .envelope
  if f.rb = rb' ∧ f.mode = mode ∧ f.ls = ls then ev else ev.markDirty (.wear i)

/-- Whether SET_RATE clamps this base rate. -/
def Ev.rateClamps (ev : Ev) (i : SlotId) (rb : Nat) : Bool :=
  clampNat (ev.slot i).fp.rMin (ev.slot i).fp.rMax rb != rb

/-! ### The regulation computation (R110 to R115) -/

/-- A value the computation has reached, or the condition of an unmasked invalid input that ends it (R115). -/
inductive Stage where
  | value (d : Int)
  | stop (k : Cond)
  deriving DecidableEq, Repr

/-- An invalid input: the masked value, or the stop (R115). -/
def invalidInput (masked : Bool) (k : Cond) (d : Int) : Stage := if masked then .value d else .stop k

/-- Stage 2 (R111): the demand. `level` is the served crusher's cavity level, absent when invalid. -/
def demand (f : Feeder) (p : FeederParams) (mask : CondSet) (level : Option Nat) : Stage :=
  if f.mode = .fixed ∨ f.seed then .value f.rb
  else
    match level with
    | some l => .value (f.rPrev + Int.tdiv (((f.ls : Int) - l) * p.kl) 64)
    | none => invalidInput (mask.mem .levelInvalid) .levelInvalid f.rPrev

/-- Whether stage 2 meets an invalid cavity level (R115). -/
def demandInvalid (f : Feeder) (level : Option Nat) : Bool := !(f.mode == .fixed || f.seed) && level.isNone

/-- Stage 3 (R112): the power cap. `power` is absent where POWER_IN is "no"; its value is absent where Pw is invalid. -/
def powerCap (f : Feeder) (p : FeederParams) (mask : CondSet) (power : Option (Option Nat)) (d1 : Int) : Stage :=
  match power with
  | none => .value d1
  | some none => invalidInput (mask.mem .powerInvalid) .powerInvalid (min d1 f.rPrev)
  | some (some pw) =>
    if pw > p.wLim then .value (min d1 (f.rPrev - Int.tdiv (((pw : Int) - p.wLim) * p.kw) 64)) else .value d1

/-- What the bin asks of stage 4 (R113): a forced zero, a cap, no rise while UNKNOWN, or nothing. -/
inductive BinAction where
  | forced
  | cap (c : Nat)
  | unknown
  | free
  deriving DecidableEq, Repr

def binAction (p : FeederParams) (b : BinState) : BinAction :=
  match p.binRel, b with
  | .neither, _ => .free
  | _, .unknown => .unknown
  | .draws, .empty => .forced
  | .draws, .low => .cap p.capLow
  | .fills, .full => .forced
  | .fills, .high => .cap p.capHigh
  | _, _ => .free

/-- Stages 5 and 6 (R114): the ramp and the range. -/
def rampRange (p : FeederParams) (rPrev : Nat) (d3 : Int) : Nat :=
  let lo : Int := (rPrev : Int) - p.rampDn
  let hi : Int := (rPrev : Int) + p.rampUp
  let d4 := if d3 < lo then lo else if d3 > hi then hi else d3
  if d4 ≤ 0 then 0 else if d4 < p.rMin then p.rMin else if d4 > p.rMax then p.rMax else d4.toNat

/-- The cavity level and the power a feeder's computation reads from its served crusher (R110). -/
def State.servedLevel (s : State) (i : SlotId) : Option Nat :=
  match (s.slots.get i).fp.served with
  | some c => if (s.slots.get c).level.valid then some (s.slots.get c).level.last else none
  | none => none

def State.servedPower (s : State) (i : SlotId) : Option (Option Nat) :=
  match (s.slots.get i).fp.served with
  | some c =>
    let x := s.slots.get c
    if x.cp.powerIn then some (if x.power.valid then some x.power.last else none) else none
  | none => none

def Cond.feederCause : Cond → FeederCause
  | .levelInvalid => .levelInvalid
  | .powerInvalid => .powerInvalid
  | .binInvalid => .binInvalid
  | .paramFault => .paramFault
  | _ => .feederFault

/-- Keep a computed reference (R114). -/
def Ev.keepRate (ev : Ev) (i : SlotId) (r : Nat) : Ev := ev.modFeeder i (fun f => { f with r := r, rPrev := r })

/-- Stages 4 to 7 (R113, R114), for the demand left by stage 3. -/
def Ev.regulateBin (ev : Ev) (i : SlotId) (d2 : Int) : Ev :=
  let x := ev.slot i
  let rPrev := x.feeder.rPrev
  match binAction x.fp ev.s.bin.state with
  | .forced => (ev.keepRate i 0).modFeeder i (fun f => { f with seed := true })
  | .cap c => ev.keepRate i (rampRange x.fp rPrev (min d2 c))
  | .free => ev.keepRate i (rampRange x.fp rPrev d2)
  | .unknown =>
    let ev := ev.record i .binInvalid
    match invalidInput (x.mask.mem .binInvalid) .binInvalid (min d2 rPrev) with
    | .value d => ev.keepRate i (rampRange x.fp rPrev d)
    | .stop k => ev.enterRun i .stopped k.feederCause

/-- Stages 3 to 7, for the demand left by stage 2. -/
def Ev.regulatePower (ev : Ev) (i : SlotId) (d1 : Int) : Ev :=
  let x := ev.slot i
  let power := ev.s.servedPower i
  let ev := if power = some none then ev.record i .powerInvalid else ev
  match powerCap x.feeder x.fp x.mask power d1 with
  | .value d => ev.regulateBin i d
  | .stop k => ev.enterRun i .stopped k.feederCause

/-- The regulation computation (R110 to R115). -/
def Ev.regulate (ev : Ev) (i : SlotId) : Ev :=
  let x := ev.slot i
  let f := x.feeder
  if !f.inhibits.isEmpty then ev.modFeeder i (fun f => { f with r := 0, rPrev := 0, seed := true })
  else
    let level := ev.s.servedLevel i
    let ev := if demandInvalid f level then ev.record i .levelInvalid else ev
    let ev := ev.modFeeder i (fun f => { f with seed := false })
    match demand f x.fp x.mask level with
    | .value d => ev.regulatePower i d
    | .stop k => ev.enterRun i .stopped k.feederCause

/-! ### The surge-bin monitor (R96 to R99) -/

/-- The plain comparison (R96). -/
def BinThresholds.plain (t : BinThresholds) (l : Nat) : BinState :=
  if l ≤ t.empty then .empty
  else if l ≤ t.low then .low
  else if l ≥ t.full then .full
  else if l ≥ t.high then .high
  else .normal

/-- The upward steps that apply to a level (R97). -/
def BinThresholds.upFrom (t : BinThresholds) (l : Nat) : BinState → BinState
  | .empty => if l ≥ t.empty + t.hys then upFromLow t l else .empty
  | .low => upFromLow t l
  | .normal => upFromNormal t l
  | .high => upFromHigh t l
  | b => b
where
  upFromHigh (t : BinThresholds) (l : Nat) : BinState := if l ≥ t.full then .full else .high
  upFromNormal (t : BinThresholds) (l : Nat) : BinState := if l ≥ t.high then upFromHigh t l else .normal
  upFromLow (t : BinThresholds) (l : Nat) : BinState := if l ≥ t.low + t.hys then upFromNormal t l else .low

/-- The downward steps that apply to a level (R97). -/
def BinThresholds.downFrom (t : BinThresholds) (l : Nat) : BinState → BinState
  | .full => if l + t.hys ≤ t.full then downFromHigh t l else .full
  | .high => downFromHigh t l
  | .normal => downFromNormal t l
  | .low => downFromLow t l
  | b => b
where
  downFromLow (t : BinThresholds) (l : Nat) : BinState := if l ≤ t.empty then .empty else .low
  downFromNormal (t : BinThresholds) (l : Nat) : BinState := if l ≤ t.low then downFromLow t l else .normal
  downFromHigh (t : BinThresholds) (l : Nat) : BinState := if l + t.hys ≤ t.high then downFromNormal t l else .high

/-- The bin state after a valid level: upward steps if one applies, else downward steps (R97), and from UNKNOWN the plain
comparison (R98). -/
def BinThresholds.next (t : BinThresholds) (b : BinState) (l : Nat) : BinState :=
  if b = .unknown then t.plain l
  else if t.upFrom l b = b then t.downFrom l b
  else t.upFrom l b

/-- The bin state changes: a BIN_STATE notice (R98). -/
def Ev.setBinState (ev : Ev) (b : BinState) (level : Option Nat) : Ev :=
  let before := ev.s.bin.state
  if before = b then ev
  else (ev.onState (fun s => { s with bin := { s.bin with state := b } })).notify none (.binState before b level)

/-- A valid bin level (R97, R98). -/
def Ev.binLevel (ev : Ev) (l : Nat) : Ev :=
  let ev := ev.onState (fun s => { s with bin := { s.bin with lastValid := l } })
  ev.setBinState (ev.s.bin.thresholds.next ev.s.bin.state l) (some l)

/-- BIN_INVALID is recorded on every feeder that fills or draws from the bin, in slot order (R98, R152). -/
def Ev.recordBinInvalid (ev : Ev) : Ev :=
  ev.each slotIds (fun ev i =>
    let x := ev.slot i
    if x.kind = .feeder ∧ x.fp.binRel ≠ .neither then ev.record i .binInvalid else ev)

/-- The bin level becomes invalid (R98). R98 gives the BIN_STATE notice and the CONDITION notices of the event no order: BIN_STATE, the
notice of the line, joins first. DESIGN CHOICE (log 38). -/
def Ev.binLost (ev : Ev) : Ev := (ev.setBinState .unknown none).recordBinInvalid

end Sys2Proof.Machine
end

