-- ==== Sys2Proof/Machine/Change.lean ====
section
/-! DEFINITION. The line change unit (chapter 8): items, their outcomes, wave 3 and the end of a change. Waves 1 and 2 stand with
APPLY_RECIPE in Recipes.lean. -/

namespace Sys2Proof.Machine

open Sys2Proof

/-- The SLOT byte that names the line. -/
def lineSlot : Byte := 0xFF

/-- Whether an item state is terminal (R140). -/
def ItemState.terminal : ItemState → Bool
  | .pending | .active => false
  | _ => true

/-- Whether an item stands for a gap entry (R140). -/
def Item.isGap (x : Item) : Bool :=
  match x.value with
  | .gap _ => true
  | .feed .. => false

/-- Change the items that stand for a slot. -/
def Change.onItem (c : Change) (i : SlotId) (f : Item → Item) : Change :=
  { c with items := c.items.map (fun x => if x.slot = i then f x else x) }

/-- The item for a slot. -/
def Change.item (c : Change) (i : SlotId) : Option Item := c.items.find? (fun x => x.slot = i)

def Ev.onChange (ev : Ev) (f : Change → Change) : Ev := ev.onState (fun s => { s with change := s.change.map f })

/-- Give a slot's item its state and reason. -/
def Ev.setItem (ev : Ev) (i : SlotId) (st : ItemState) (r : Reason) : Ev :=
  ev.onChange (·.onItem i (fun x => { x with state := st, reason := r }))

/-- Give a slot's item its applied value. -/
def Ev.setApplied (ev : Ev) (i : SlotId) (v : Nat) : Ev := ev.onChange (·.onItem i (fun x => { x with applied := some v }))

/-- Apply a feeder item as SET_RATE from the origin, from the LOCKOUT check on (R142, R145). -/
def Ev.applyFeedItem (ev : Ev) (x : Item) : Ev :=
  match x.value with
  | .gap _ => ev
  | .feed rb mode ls =>
    match ev.rateRefusal x.slot rb with
    | some r => ev.setItem x.slot .failed r
    | none =>
      let clamps := ev.rateClamps x.slot rb
      let ev := ev.writeRate x.slot rb mode ls
      let ev := ev.setApplied x.slot (ev.feeder x.slot).rb
      if clamps then ev.setItem x.slot .adjusted .envelope else ev.setItem x.slot .done .noReason

/-! ### The end of a change (R147) -/

/-- The outcome of a change's items and its reason (R147). -/
def outcomeOf (items : List Item) : Disposition × Reason :=
  let good := items.filter (fun x => x.state == .done || x.state == .adjusted)
  let bad := items.filter (fun x => !(x.state == .done || x.state == .adjusted))
  match bad with
  | x :: _ => (if good.isEmpty then .failed else .partialDone, x.reason)
  | [] =>
    match items.filter (fun x => x.state == .adjusted) with
    | x :: _ => (.doneAdjusted, x.reason)
    | [] => (.done, .noReason)

/-- An item as the end of its change reports it (R147). -/
def Item.result (x : Item) : ItemResult := ⟨x.slot, x.state, x.reason, x.applied⟩

/-- The outcome is computed, the final reply and the CHANGE_END notice are raised and the record is removed (R147). -/
def Ev.concludeChange (ev : Ev) : Ev :=
  match ev.s.change with
  | none => ev
  | some c =>
    let (disp, reason) := outcomeOf c.items
    let ev := ev.finalReply c.origin c.ack
      ⟨ReqCode.applyRecipe.code, disp, reason, c.tag, c.reqno, lineSlot, .changeItems c.id c.recipe (c.items.map Item.result)⟩
    let ev := ev.notify none (.changeEnd c.id c.origin c.recipe disp reason (c.items.map Item.result))
    ev.onState (fun s => { s with change := none })

/-- Wave 3: each feeder item still PENDING is applied, in slot order (R145). Its notices join behind those of the steps that began it, whatever
slots they name. DESIGN CHOICE (log 55). -/
def Ev.waveThree (ev : Ev) : Ev :=
  match ev.s.change with
  | none => ev
  | some c =>
    let ev := ev.onChange (fun c => { c with wave := 3 })
    (c.items.filter (fun x => x.state == .pending && !x.isGap)).foldl (fun ev x => ev.applyFeedItem x) ev

/-- The test of R144: in wave 2 with every crusher item terminal, wave 3 begins; with every item terminal, the outcome is
computed (R145, R147). -/
def Ev.advanceChange (ev : Ev) : Ev :=
  match ev.s.change with
  | none => ev
  | some c =>
    if c.wave = 2 ∧ c.items.all (fun x => !x.isGap || x.state.terminal) then ev.waveThree.concludeChange else ev

/-- The line change unit is given the discard of an entry or the end of a move: it acts when the change with that id exists and its
item for the slot is ACTIVE (R144). -/
def Ev.changeItemEnd (ev : Ev) (id : Option Nat) (i : SlotId) (st : ItemState) (r : Reason) : Ev :=
  match ev.s.change, id with
  | some c, some n =>
    if c.id = n ∧ (c.item i).any (fun x => x.state == .active) then (ev.setItem i st r).advanceChange else ev
  | _, _ => ev

/-- The origin of the change loses a slot: the item for it, when not yet terminal, fails with HANDOVER (R125 step 3). -/
def Ev.changeHandover (ev : Ev) (i : SlotId) (p : Port) : Ev :=
  match ev.s.change with
  | some c =>
    if c.origin = p ∧ (c.item i).any (fun x => !x.state.terminal) then (ev.setItem i .failed .handover).advanceChange else ev
  | none => ev

end Sys2Proof.Machine
end

