-- ==== Sys2Proof/Machine/Motion.lean ====
section
/-! DEFINITION. The motion controllers as shared operations (chapter 3): queue, start check, move start, the motion cycle,
suspension, the end of a move, BLOCKED, the recall stack and the trim evaluation. -/

namespace Sys2Proof.Machine

open Sys2Proof

/-! ### The recall stack (R57) -/

def RecallStack.place (s : RecallStack) (k : Fin 6) : Option RecallEntry :=
  match k with
  | 0 => s.p0 | 1 => s.p1 | 2 => s.p2 | 3 => s.p3 | 4 => s.p4 | 5 => s.p5

def RecallStack.setPlace (s : RecallStack) (k : Fin 6) (e : Option RecallEntry) : RecallStack :=
  match k with
  | 0 => { s with p0 := e } | 1 => { s with p1 := e } | 2 => { s with p2 := e }
  | 3 => { s with p3 := e } | 4 => { s with p4 := e } | 5 => { s with p5 := e }

/-- The entries, newest first (R60). -/
def RecallStack.newestFirst (s : RecallStack) : List RecallEntry :=
  [s.top, s.top - 1, s.top - 2, s.top - 3, s.top - 4, s.top - 5].filterMap s.place

/-- The depth counts the places not EMPTY (R57). -/
def RecallStack.depth (s : RecallStack) : Nat :=
  ([s.p0, s.p1, s.p2, s.p3, s.p4, s.p5].filter Option.isSome).length

/-- Push: TOP advances one place and the entry is written there (R57). -/
def RecallStack.push (s : RecallStack) (e : RecallEntry) : RecallStack :=
  { s.setPlace (s.top + 1) (some e) with top := s.top + 1 }

/-- Pop: the place at TOP becomes EMPTY and TOP moves back one place (R57). -/
def RecallStack.pop (s : RecallStack) : RecallStack := { s.setPlace s.top none with top := s.top - 1 }

/-! ### Replies and notices of entries and moves (R39, R51, R175) -/

/-- The SLOT byte of the request an entry answers: the line for APPLY_RECIPE, the slot otherwise (log 8). -/
def Entry.slotByte (e : Entry) (i : SlotId) : Byte := if e.code = .applyRecipe then lineSlot else BitVec.ofNat 8 i.val

/-- The final reply of an entry or move, to its origin port when its ack-wanted mark is set. -/
def Ev.entryFinal (ev : Ev) (i : SlotId) (e : Entry) (disp : Disposition) (reason : Reason) (body : ReplyBody) : Ev :=
  match e.origin with
  | .port p => ev.finalReply p e.ack ⟨e.code.code, disp, reason, e.tag, e.reqno, e.slotByte i, body⟩
  | .line => ev

def Ev.moveEndNotice (ev : Ev) (i : SlotId) (e : Entry) (disp : Disposition) (reason : Reason) : Ev :=
  ev.notify (some i) (.moveEnd e.kind disp reason e.origin e.tag (ev.crusher i).tf)

/-! ### The queue (R36 to R39) -/

/-- Insertion: a priority entry behind every priority entry and ahead of the others, any other at the tail (R36, R37). -/
def insertEntry (q : List Entry) (e : Entry) : List Entry :=
  if e.priority then q.takeWhile (·.priority) ++ e :: q.dropWhile (·.priority) else q ++ [e]

/-- The newest non-priority entry, the one nearest the tail (R38). -/
def newestOrdinary (q : List Entry) : Option Entry := q.reverse.find? (fun e => !e.priority)

/-- The queue without that entry (R38). -/
def dropNewestOrdinary (q : List Entry) : List Entry := (q.reverse.eraseP (fun e => !e.priority)).reverse

/-- The final reply and the MOVE_END notice of an entry that has left the queue without starting (R39). -/
def Ev.announceDiscard (ev : Ev) (i : SlotId) (reason : Reason) (e : Entry) : Ev :=
  (ev.entryFinal i e .discarded reason .empty).moveEndNotice i e .discarded reason

/-- The same, and the line change unit is given the discard (R39, R144). -/
def Ev.endEntry (ev : Ev) (i : SlotId) (reason : Reason) (e : Entry) : Ev :=
  (ev.announceDiscard i reason e).changeItemEnd e.changeId i .failed reason

/-- The queue keeps only the entries `p` does not pick. -/
def Ev.dropEntries (ev : Ev) (i : SlotId) (p : Entry → Bool) : Ev :=
  ev.modCrusher i (fun c => { c with queue := c.queue.filter (fun e => !p e) })

/-- Every queued entry that `p` picks ends DISCARDED, oldest first: in queue order (R39). DEDUCED (log 32). -/
def Ev.discardWhere (ev : Ev) (i : SlotId) (p : Entry → Bool) (reason : Reason) : Ev :=
  ((ev.crusher i).queue.filter p).foldl (fun ev e => ev.endEntry i reason e) (ev.dropEntries i p)

def Ev.discardAll (ev : Ev) (i : SlotId) (reason : Reason) : Ev := ev.discardWhere i (fun _ => true) reason

/-! ### Timers and states -/

def Crusher.stopMoveTimers (c : Crusher) : Crusher :=
  { c with travel := none, settle := none, suspension := none, drainLimit := none, fixedDrain := none }

/-- The drive goes to HOLD and the travel, settle, suspension and drain timers stop (R51 step 1). -/
def Ev.stopMotion (ev : Ev) (i : SlotId) : Ev := (ev.holdDrive i).modCrusher i (·.stopMoveTimers)

def Ev.setMotion (ev : Ev) (i : SlotId) (m : Motion) : Ev := ev.modCrusher i (fun c => { c with motion := m })

def Ev.onMove (ev : Ev) (i : SlotId) (f : MoveRec → MoveRec) : Ev :=
  ev.modCrusher i (fun c => { c with move := c.move.map f })

def Ev.onEpisode (ev : Ev) (i : SlotId) (f : Episode → Episode) : Ev :=
  ev.modCrusher i (fun c => { c with episode := c.episode.map f })

/-- Whether a cone's relief episode owns the drive and the timers (R73). -/
def Motion.inEpisode : Motion → Bool
  | .relief | .recovering => true
  | _ => false

/-! ### The end of a move (R51) -/

/-- Push the previous target in force; a push onto six entries records HISTORY_WRAP (R57). -/
def Ev.pushRecall (ev : Ev) (i : SlotId) (o : Origin) : Ev :=
  let c := ev.crusher i
  let full := c.stack.depth = 6
  let ev := ev.modCrusher i (fun c => { c with stack := c.stack.push ⟨c.tf, o⟩ })
  if full then ev.record i .historyWrap else ev

/-- Step 2 of a move end with DONE or DONE_ADJUSTED (R51): the recall stack and T_f for a SET or STEP, W_at_move, the wear
record. -/
def Ev.settleTarget (ev : Ev) (i : SlotId) (m : MoveRec) : Ev :=
  let ev :=
    match m.entry.kind with
    | .set | .step =>
      (ev.pushRecall i m.entry.origin).modCrusher i (fun c => { c with tf := m.applied.getD c.tf })
    | _ => ev
  (ev.modCrusher i (fun c => { c with wAtMove := c.w })).markDirty (.wear i)

/-- A move end carries a change item to its terminal state (R144). -/
def Disposition.itemState : Disposition → ItemState
  | .done => .done
  | .doneAdjusted => .adjusted
  | _ => .failed

/-- Steps 3 to 6 of a move end (R51): the record is removed, the final reply and the MOVE_END notice are raised, and the line change
unit is given the end. -/
def Ev.closeMove (ev : Ev) (i : SlotId) (m : MoveRec) (disp : Disposition) (reason : Reason) : Ev :=
  let ev := ev.modCrusher i (fun c => { c with move := none })
  let ev := ev.entryFinal i m.entry disp reason (.moveEnded m.applied (ev.crusher i).tf)
  let ev := ev.moveEndNotice i m.entry disp reason
  ev.changeItemEnd m.entry.changeId i disp.itemState reason

/-- A move ends (R51), up to and with the slot becoming IDLE. The second part says whether a start check is due, and whether it may
run the trim evaluation (R59). In an episode the drive, the timers and the state belong to the episode, the episode's return
state becomes IDLE and no start check runs (R73). -/
def Ev.finishMove (ev : Ev) (i : SlotId) (disp : Disposition) (reason : Reason) : Ev × Option Bool :=
  match (ev.crusher i).move with
  | none => (ev, none)
  | some m =>
    let good := disp = .done ∨ disp = .doneAdjusted
    if (ev.crusher i).motion.inEpisode then
      let ev := ev.onEpisode i (fun e => { e with returnTo := .idle })
      let ev := if good then ev.settleTarget i m else ev
      (ev.closeMove i m disp reason, none)
    else
      let ev := ev.stopMotion i
      let ev := if (ev.slot i).kind = .jaw then ev.lowerLinked i .drain else ev
      let ev := if good then ev.settleTarget i m else ev
      let ev := ev.closeMove i m disp reason
      (ev.setMotion i .idle, some (!(m.entry.kind == .trim && disp == .failed)))

/-- A move ends DONE, or DONE_ADJUSTED with the first check that adjusted it (R45, R51). -/
def Ev.finishDone (ev : Ev) (i : SlotId) : Ev × Option Bool :=
  match (ev.crusher i).move.bind (·.adjusted) with
  | some r => ev.finishMove i .doneAdjusted r
  | none => ev.finishMove i .done .noReason

/-! ### BLOCKED (R52) -/

/-- Entry to BLOCKED once any move has ended: the drive is at HOLD, no timer runs, every queued entry ends DISCARDED, and WEAR_LIMIT
raises CALIBRATE on the linked feeder (R52). -/
def Ev.enterBlocked (ev : Ev) (i : SlotId) (cause : BlockCause) : Ev :=
  let ev := (ev.stopMotion i).setMotion i (.blocked cause)
  let ev := ev.discardAll i (if cause = .trampRepeat then .trampRepeat else .blocked)
  if cause = .wearLimit then ev.raiseLinked i .calibrate else ev

/-! ### Suspension (R48) -/

/-- A cause joins the move's cause set, and from DRAINING, MOVING or SETTLING the slot becomes SUSPENDED (R48). -/
def Ev.addCause (ev : Ev) (i : SlotId) (k : Cause) : Ev :=
  let c := ev.crusher i
  let join := fun (m : MoveRec) => { m with causes := m.causes.put k true }
  match c.motion with
  | .draining | .moving | .settling =>
    let left := (ev.s.remaining c.travel).getD 0
    let back := if c.motion = .draining then ReturnTo.draining else .moving
    let ev := (ev.stopMotion i).setMotion i .suspended
    let ev := ev.modCrusher i (fun c => { c with suspension := ev.timer (suspLimitMs (ev.slot i)) })
    ev.onMove i (fun m => { join m with returnTo := back, remaining := left })
  | .suspended | .relief | .recovering => ev.onMove i join
  | _ => ev
where
  /-- SUSP_LIMIT in ms. -/
  suspLimitMs (x : Slot) : Nat := x.cp.suspLimit * 1000

/-! ### The motion cycle (R43 to R47) -/

/-- MOVING at a valid position: the drive toward P_t, or SETTLING within DB (R44, R45). -/
def Ev.moveStep (ev : Ev) (i : SlotId) (p : Nat) : Ev :=
  let x := ev.slot i
  match x.crusher.move with
  | none => ev
  | some m =>
    match toward p m.target x.cp.db with
    | .drive d => ev.driveTo i false p m.target d
    | .arrived =>
      ((ev.holdDrive i).setMotion i .settling).modCrusher i (fun c => { c with settle := ev.timer x.cp.settle })

/-- The position reading is invalid in MOVING or SETTLING, or at an entry to MOVING (R47). -/
def Ev.positionLost (ev : Ev) (i : SlotId) : Ev × Option Bool :=
  let ev := ev.record i .positionInvalid
  let ev := (ev.holdDrive i).modCrusher i (fun c => { c with settle := none })
  if ev.masked i .positionInvalid then (ev.addCause i .sensor, none) else ev.finishMove i .failed .sensor

/-- Entry to MOVING: the drive is commanded from the present reading (R44, R47). -/
def Ev.enterMoving (ev : Ev) (i : SlotId) : Ev × Option Bool :=
  let ev := ev.setMotion i .moving
  match (ev.slot i).position.valid, (ev.slot i).position.last with
  | true, some p => (ev.moveStep i p, none)
  | _, _ => ev.positionLost i

/-- The cavity-empty test of DRAINING and of the DRAIN stage (R43, R86). -/
def Slot.cavityEmpty (x : Slot) : Bool := x.cp.levelIn && x.level.valid && decide (x.level.last ≤ x.cp.cavEmpty)

/-- The drain timers start (R43, R86). -/
def Ev.startDrainTimers (ev : Ev) (i : SlotId) : Ev :=
  let p := (ev.slot i).cp
  ev.modCrusher i (fun c =>
    { c with drainLimit := ev.timer (p.drainLimit * 1000),
             fixedDrain := if p.levelIn then none else ev.timer (p.drainFixed * 1000) })

def Ev.stopDrainTimers (ev : Ev) (i : SlotId) : Ev :=
  ev.modCrusher i (fun c => { c with drainLimit := none, fixedDrain := none })

/-- The jaw leaves DRAINING for MOVING (R43). -/
def Ev.leaveDraining (ev : Ev) (i : SlotId) : Ev × Option Bool := (ev.stopDrainTimers i).enterMoving i

/-- Entry to DRAINING (R43). -/
def Ev.enterDraining (ev : Ev) (i : SlotId) : Ev × Option Bool :=
  let ev := ((ev.setMotion i .draining).raiseLinked i .drain).startDrainTimers i
  if (ev.slot i).cavityEmpty then ev.leaveDraining i else (ev, none)

/-- The travel timer restarts with the time held while suspended (R46). -/
def Ev.restartTravel (ev : Ev) (i : SlotId) : Ev :=
  ev.modCrusher i (fun c =>
    { c with suspension := none, travel := c.move.map (fun m => ev.s.clock + m.remaining) })

/-- The last cause has left the set of a suspended move (R47, R48; no POSITION_INVALID is recorded here, log 21). -/
def Ev.leaveSuspension (ev : Ev) (i : SlotId) : Ev × Option Bool :=
  match (ev.crusher i).move with
  | none => (ev, none)
  | some m =>
    match m.returnTo, (ev.slot i).position.valid with
    | .draining, _ => (ev.restartTravel i).enterDraining i
    | .moving, true => (ev.restartTravel i).enterMoving i
    | .moving, false =>
      if ev.masked i .positionInvalid then (ev.addCause i .sensor, none) else ev.finishMove i .failed .sensor

/-- After causes were removed: the slot leaves SUSPENDED when the set is empty (R48). -/
def Ev.testCauses (ev : Ev) (i : SlotId) : Ev × Option Bool :=
  let c := ev.crusher i
  if c.motion = .suspended ∧ c.move.any (fun m => m.causes.isEmpty) then ev.leaveSuspension i else (ev, none)

/-! ### The start of a move (R42) -/

/-- What stage 1 of a start makes of an entry (R32, R33, R42): the applied gap, whether a masked ENVELOPE clamped it here, and
whether ENVELOPE is raised here. -/
structure Resolved where
  applied : Option Nat
  clamped : Bool
  raised : Bool
  deriving DecidableEq, Repr

def resolveEntry (p : CrusherParams) (tf : Nat) (masked : Bool) (e : Entry) : Resolved :=
  match e.kind with
  | .step =>
    let k := envelopeCheck p ((tf : Int) + e.requested)
    if k.inside then ⟨some k.clamped, false, false⟩
    else if masked then ⟨some k.clamped, true, true⟩
    else ⟨none, false, true⟩
  | .set => ⟨some (e.applied.getD tf), false, false⟩
  | _ => ⟨some tf, false, false⟩

/-- Stages 3 and 4 of a start: the travel timer starts; a JAW enters DRAINING, a CONE MOVING (R42). -/
def Ev.launch (ev : Ev) (i : SlotId) : Ev × Option Bool :=
  let x := ev.slot i
  let ev := ev.modCrusher i (fun c => { c with travel := ev.timer (x.cp.travel * 1000) })
  if x.kind = .jaw then ev.enterDraining i else ev.enterMoving i

/-- Stage 2 of a start: the target computation and its outcome (R24, R28, R42). -/
def Ev.aim (ev : Ev) (i : SlotId) (gap : Nat) : Ev × Option Bool :=
  let x := ev.slot i
  let t := targetFor x.cp x.crusher.z x.crusher.w (ev.masked i .reach) gap
  let ev := if t.reach then ev.record i .reach else ev
  match t.pos with
  | none => ev.finishMove i .failed .reach
  | some p =>
    let adj := fun (a : Option Reason) => if a.isNone && t.reach then some Reason.reach else a
    (ev.onMove i (fun m => { m with target := p, adjusted := adj m.adjusted })).launch i

/-- The head of the queue becomes the move record and starts (R42). -/
def Ev.startHead (ev : Ev) (i : SlotId) : Ev × Option Bool :=
  let x := ev.slot i
  match x.crusher.queue with
  | [] => (ev, none)
  | e :: rest =>
    let r := resolveEntry x.cp x.crusher.tf (ev.masked i .envelope) e
    let adj := if e.adjusted || r.clamped then some Reason.envelope else none
    let ev := ev.modCrusher i (fun c =>
      { c with queue := rest, move := some ⟨e, r.applied, 0, adj, .moving, .zero, 0⟩ })
    let ev := if r.raised then ev.record i .envelope else ev
    match r.applied with
    | none => ev.finishMove i .failed .envelope
    | some gap => ev.aim i gap

/-! ### The start check (R41), the wear-block test (R82) and the trim evaluation (R59) -/

/-- Whether the head may start (R41). -/
def Ev.canStart (ev : Ev) (i : SlotId) : Bool :=
  let x := ev.slot i
  x.crusher.motion == .idle && x.crusher.queue.head?.any (fun e => !e.staged) && !ev.s.held i && !ev.s.lineStop.state
    && !x.lockout.state

/-- Whether a TRIM is created (R59). -/
def Ev.trimDue (ev : Ev) (i : SlotId) : Bool :=
  let x := ev.slot i
  x.kind == .cone && x.cp.autoTrim && decide (x.crusher.wAtMove + x.cp.trimStep ≤ x.crusher.w)
    && x.crusher.motion == .idle && x.crusher.queue.isEmpty && !ev.s.held i && !x.lockout.state && !ev.s.lineStop.state

/-- A TRIM entry (R35, R59). -/
def trimEntry (tf : Nat) : Entry :=
  { origin := .line, code := .setGap, tag := 0, reqno := 0, ack := false, kind := .trim, requested := tf, applied := none,
    adjusted := false, priority := false, staged := false, changeId := none }

def Ev.addTrim (ev : Ev) (i : SlotId) : Ev :=
  ev.modCrusher i (fun c => { c with queue := insertEntry c.queue (trimEntry c.tf) })

/-- The start check with its wear-block test and trim evaluation. A started move that ends at once is followed by its own start
check, so the check is run at most `fuel` times; every run starts an entry, or adds the one TRIM, or ends. -/
def Ev.startCheck (fuel : Nat) (ev : Ev) (i : SlotId) (trim : Bool) : Ev :=
  match fuel with
  | 0 => ev
  | n + 1 =>
    let c := ev.crusher i
    if c.motion = .idle ∧ c.wearBlock then
      (ev.modCrusher i (fun c => { c with wearBlock := false })).enterBlocked i .wearLimit
    else if ev.canStart i then
      let r := ev.startHead i
      match r.2 with
      | none => r.1
      | some t => Ev.startCheck n r.1 i t
    else if c.queue.isEmpty && trim && ev.trimDue i then Ev.startCheck n (ev.addTrim i) i true
    else ev

/-- The start check at a start-check event. -/
def Ev.check (ev : Ev) (i : SlotId) (trim : Bool := true) : Ev :=
  Ev.startCheck ((ev.crusher i).queue.length + 3) ev i trim

/-- The start check that follows a move end, when one is due (R51 step 8). -/
def Ev.follow (r : Ev × Option Bool) (i : SlotId) : Ev :=
  match r.2 with
  | none => r.1
  | some t => r.1.check i t

/-- The trim evaluation at an increment of W (R59, R83). -/
def Ev.evaluateTrim (ev : Ev) (i : SlotId) : Ev := if ev.trimDue i then (ev.addTrim i).check i else ev

end Sys2Proof.Machine
end

