-- ==== Sys2Proof/Machine/Calibration.lean ====
section
/-! DEFINITION. The calibration and wear tracker as shared operations (chapter 5): the zero-point procedure, its end, and the
tonnage pulse with the wear ceiling. -/

namespace Sys2Proof.Machine

open Sys2Proof

def Ev.onCal (ev : Ev) (i : SlotId) (f : CalRun → CalRun) : Ev := ev.modCrusher i (fun c => { c with cal := c.cal.map f })

/-! ### The end of a calibration (R93) -/

/-- Steps 1 to 5 of a calibration's end, and IDLE (R93); whether a start check follows is the caller's. -/
def Ev.endCal (ev : Ev) (i : SlotId) (disp : Disposition) (reason : Reason) : Ev :=
  match (ev.crusher i).cal with
  | none => ev
  | some run =>
    let ev := (ev.stopMotion i).lowerLinked i .calibrate
    let ev := ev.modCrusher i (fun c => { c with cal := none })
    let c := ev.crusher i
    let last := if run.contact.isSome then c.lastCal else none
    let ev := ev.finalReply run.port run.ack
      ⟨ReqCode.calibrate.code, disp, reason, run.tag, run.reqno, BitVec.ofNat 8 i.val, .calibrated c.z c.w last⟩
    let ev := ev.notify (some i) (.moveEnd .calibrate disp reason (.port run.port) run.tag c.tf)
    ev.setMotion i .idle

/-- A calibration ends and the start check runs (R93 step 6). -/
def Ev.failCal (ev : Ev) (i : SlotId) (reason : Reason) : Ev := (ev.endCal i .failed reason).check i

/-- The disposition of a run whose BACKOFF has settled (R93). -/
def CalRun.outcome (r : CalRun) : Disposition × Reason :=
  if r.contact = some .rejected then (.failed, .calJump)
  else if r.reachFail then (.failed, .reach)
  else if r.adjCalJump then (.doneAdjusted, .calJump)
  else if r.adjReach then (.doneAdjusted, .reach)
  else (.done, .noReason)

/-! ### Driving within a stage (R90, R92) -/

/-- The comparisons of R44 and the settle behaviour of R45, within REOPEN (SLOW throughout) and BACKOFF. -/
def Ev.calDrive (ev : Ev) (i : SlotId) (slowly : Bool) (target : Int) (p : Nat) : Ev :=
  let x := ev.slot i
  match toward p target x.cp.db with
  | .drive d => ev.driveGuarded i slowly p target d
  | .arrived => (ev.holdDrive i).modCrusher i (fun c => { c with settle := ev.timer x.cp.settle })

def Ev.startTravel (ev : Ev) (i : SlotId) : Ev :=
  ev.modCrusher i (fun c => { c with travel := ev.timer ((ev.slot i).cp.travel * 1000) })

/-! ### BACKOFF (R91, R92) -/

/-- Entry to BACKOFF at a contact position (R91). -/
def Ev.enterBackoff (ev : Ev) (i : SlotId) (contact : Nat) : Ev :=
  let x := ev.slot i
  let t := targetFor x.cp x.crusher.z x.crusher.w (ev.masked i .reach) x.crusher.tf
  let ev := if t.reach then ev.record i .reach else ev
  let pStart := (x.crusher.cal.bind (·.pStart)).getD contact
  let target :=
    match t.pos with
    | some p => if p > contact then pStart else p
    | none => pStart
  let ev := ev.onCal i (fun r =>
    { r with stage := .backoff, target := some target, adjReach := t.reach && t.pos.isSome, reachFail := t.pos.isNone,
             trace := [] })
  (ev.startTravel i).calDrive i false target contact

/-! ### CONTACT (R89) -/

/-- The contact is judged and the stage becomes BACKOFF (R89, R95). -/
def Ev.contact (ev : Ev) (i : SlotId) (zNew : Nat) : Ev :=
  let ev := ev.holdDrive i
  let x := ev.slot i
  let c := x.crusher
  let jump := jumpOf x.cp.g zNew (predictedZero x.cp.g c.z c.w)
  let exceeds := jump > x.cp.calTol
  let ev := if exceeds then ev.record i .calJump else ev
  let outcome : CalOutcome := if exceeds then (if ev.masked i .calJump then .adjusted else .rejected) else .accepted
  let ev := ev.modCrusher i (fun c => { c with lastCal := some ⟨ev.s.lineClock, c.z, zNew, c.w, jump, outcome⟩ })
  let ev := ev.onCal i (fun r => { r with contact := some outcome, adjCalJump := outcome == .adjusted })
  let ev :=
    if outcome = .rejected then ev.markDirty (.cal i)
    else
      ((ev.modCrusher i (fun c =>
        { c with z := zNew, w := 0, acc := 0, tonnes := 0, wAtMove := 0, wearBlock := false })).markDirty
          (.cal i)).markDirty (.wear i)
  ev.enterBackoff i zNew

/-! ### REOPEN (R90) -/

/-- Entry to REOPEN: the travel timer restarts and the drive goes back toward P_start (R90). -/
def Ev.enterReopen (ev : Ev) (i : SlotId) (p : Nat) : Ev :=
  let pStart := ((ev.crusher i).cal.bind (·.pStart)).getD p
  let ev := ev.onCal i (fun r => { r with stage := .reopen, trace := [] })
  (ev.startTravel i).calDrive i true pStart p

/-! ### APPROACH (R87, R88) -/

/-- Entry to APPROACH (R87). -/
def Ev.enterApproach (ev : Ev) (i : SlotId) : Ev :=
  let ev := (ev.stopDrainTimers i).onCal i (fun r => { r with stage := .approach, stageAt := ev.now })
  let x := ev.slot i
  match x.position.valid, x.position.last with
  | true, some p =>
    let ev := ev.onCal i (fun r => { r with pStart := some p, trace := [(ev.now, p)] })
    (ev.startTravel i).setDrive i ⟨some .closing, true, x.cp.pHi⟩
  | _, _ => (ev.record i .positionInvalid).failCal i .sensor

/-- The position as it stood one contact window before `now` (R88, R164). -/
def positionEarlier (trace : List (Nat × Nat)) (now : Nat) : Option Nat :=
  (trace.find? (fun r => r.1 + Config.contactMs ≤ now)).map (·.2)

/-- Whether contact is declared at a reading (R88). -/
def CalRun.contactAt (r : CalRun) (now p : Nat) : Bool :=
  decide (r.stageAt + Config.contactMs ≤ now)
    && (positionEarlier r.trace now).any (fun e => decide (p ≤ e + Config.contactCounts))

/-- Keep a reading in the trace, and of the older ones those a later contact test can still ask for (log 26). -/
def keepTrace (trace : List (Nat × Nat)) (now p : Nat) : List (Nat × Nat) :=
  let recent := trace.takeWhile (fun r => now < r.1 + Config.contactMs)
  (now, p) :: recent ++ (trace.drop recent.length).take 1

/-- A valid reading in APPROACH (R87 tests 2 to 4). -/
def Ev.approachReading (ev : Ev) (i : SlotId) (run : CalRun) (p : Nat) : Ev :=
  if p ≥ (ev.slot i).cp.pHi then ((ev.holdDrive i).record i .noContact).enterReopen i p
  else if run.contactAt ev.now p then ev.contact i p
  else ev.onCal i (fun r => { r with trace := keepTrace r.trace ev.now p })

/-! ### DRAIN (R86) -/

/-- Entry to the DRAIN stage (R86). -/
def Ev.enterCalDrain (ev : Ev) (i : SlotId) : Ev :=
  let ev := (ev.raiseLinked i .calibrate).startDrainTimers i
  if (ev.slot i).cavityEmpty then ev.enterApproach i else ev

/-! ### Events of a run -/

/-- A valid position reading in CALIBRATING (R87, R90, R92); while the settle timer runs the reading changes nothing (R45). -/
def Ev.calReading (ev : Ev) (i : SlotId) (p : Nat) : Ev :=
  let c := ev.crusher i
  match c.cal with
  | none => ev
  | some run =>
    match run.stage with
    | .drain => ev
    | .approach => ev.approachReading i run p
    | .reopen => if c.settle.isSome then ev else ev.calDrive i true (run.pStart.getD p) p
    | .backoff => if c.settle.isSome then ev else ev.calDrive i false (run.target.getD p) p

/-- The reading becomes invalid in CALIBRATING (R87, R90, R92). -/
def Ev.calLost (ev : Ev) (i : SlotId) : Ev :=
  match (ev.crusher i).cal with
  | none => ev
  | some run =>
    match run.stage with
    | .drain => ev
    | .approach => ((ev.holdDrive i).record i .positionInvalid).failCal i .sensor
    | .reopen => ((ev.holdDrive i).record i .positionInvalid).failCal i .noContact
    | .backoff =>
      ((ev.holdDrive i).modCrusher i (fun c => { c with settle := none })).record i .positionInvalid

/-- The settle timer expires in CALIBRATING (R90, R92). -/
def Ev.calSettled (ev : Ev) (i : SlotId) : Ev :=
  let x := ev.slot i
  match x.crusher.cal, x.position.last with
  | some run, some p =>
    match run.stage with
    | .reopen =>
      let target := run.pStart.getD p
      if toward p target x.cp.db = .arrived then ev.failCal i .noContact else ev.calDrive i true target p
    | .backoff =>
      let target := run.target.getD p
      if toward p target x.cp.db = .arrived then (ev.endCal i run.outcome.1 run.outcome.2).check i
      else ev.calDrive i false target p
    | _ => ev
  | _, _ => ev

/-- The travel timer expires in CALIBRATING (R87, R90, R92). -/
def Ev.calTravelOut (ev : Ev) (i : SlotId) : Ev :=
  match (ev.crusher i).cal with
  | none => ev
  | some run =>
    let ev := (ev.holdDrive i).record i .moveTimeout
    ev.failCal i (if run.stage = .reopen then .noContact else .timeout)

/-! ### Tonnage and wear (R80, R81) -/

/-- The ceiling is reached (R81). -/
def Ev.wearCeiling (ev : Ev) (i : SlotId) : Ev :=
  let ev := ev.record i .wearLimit
  if ev.masked i .wearLimit then ev
  else
    match (ev.crusher i).motion with
    | .idle => ev.enterBlocked i .wearLimit
    | .blocked .wearLimit => ev
    | _ => ev.modCrusher i (fun c => { c with wearBlock := true })

/-- A wear carry (R80 steps 4 and 5). -/
def Ev.wearCarry (ev : Ev) (i : SlotId) : Ev :=
  let x := ev.slot i
  if x.crusher.w < x.cp.wearMax then
    let ev := (ev.modCrusher i (fun c => { c with w := c.w + 1 })).markDirty (.wear i)
    let ev := if (ev.crusher i).w = x.cp.wearMax then ev.wearCeiling i else ev
    ev.evaluateTrim i
  else ev.wearCeiling i

/-- A tonnage pulse (R80). -/
def Ev.tonnagePulse (ev : Ev) (i : SlotId) : Ev :=
  let x := ev.slot i
  let sum := x.crusher.acc + x.cp.wearRate
  let ev := ev.modCrusher i (fun c =>
    { c with tonnes := min (c.tonnes + 1) 16777215, acc := if sum ≥ 65536 then sum - 65536 else sum })
  if sum ≥ 65536 then ev.wearCarry i else ev

end Sys2Proof.Machine
end

