-- ==== Sys2Proof/Machine/Relief.lean ====
section
/-! DEFINITION. The relief monitors as shared operations (chapter 4): relief start and end, recovery, its completion and failure,
and the lockout of a crusher slot (R54, R74). -/

namespace Sys2Proof.Machine

open Sys2Proof

/-! ### The history (R63) -/

/-- Append the time of a relief start; a history of 8 loses its oldest entry first (R63). -/
def appendHistory (h : List Nat) (t : Nat) : List Nat :=
  (if h.length ≥ Config.historyPlaces then h.drop (h.length + 1 - Config.historyPlaces) else h) ++ [t]

/-- Prune the entries more than the window old (R63). -/
def pruneHistory (h : List Nat) (now window : Nat) : List Nat := h.filter (fun t => decide (now ≤ t + window))

def Ev.reliefNotice (ev : Ev) (i : SlotId) (outcome : Option ReliefOutcome) : Ev :=
  ev.notify (some i) (.relief outcome (ev.crusher i).history.length)

def Ev.prune (ev : Ev) (i : SlotId) : Ev :=
  ev.modCrusher i (fun c => { c with history := pruneHistory c.history ev.s.lineClock (ev.slot i).cp.reliefWindow })

/-! ### Relief start (R64 to R66) -/

/-- The return state an opening episode records (R65). -/
def Motion.episodeReturn : Motion → EpisodeReturn
  | .moving | .settling => .moving
  | .suspended => .suspended
  | _ => .idle

/-- Step 4 of a relief start: an episode opens, or the open one loses its recovery target (R64, R74). -/
def Ev.openEpisode (ev : Ev) (i : SlotId) (prior : Motion) : Ev :=
  let x := ev.slot i
  match x.crusher.episode with
  | some _ => ev.onEpisode i (fun e => { e with target := none, abandoned := e.abandoned || x.lockout.state })
  | none =>
    ev.modCrusher i (fun c =>
      { c with episode := some ⟨ev.s.lineClock, x.position.last, prior.episodeReturn, none, x.lockout.state⟩ })

/-- A running restart-delay timer stops and RECOVERY_DELAY is lowered (R72). -/
def Ev.stopRestart (ev : Ev) (i : SlotId) : Ev :=
  if (ev.crusher i).restart.isSome then
    (ev.modCrusher i (fun c => { c with restart := none })).lowerLinked i .recoveryDelay
  else ev

/-- A relief start (R64, R65, R66). The restart delay stops in every motion state (R72). A calibration ends once the drive is held, before
the episode opens: R64, R65 and R94 give its end no place among R64's steps. DESIGN CHOICE (log 48). -/
def Ev.reliefStart (ev : Ev) (i : SlotId) : Ev :=
  let prior := (ev.crusher i).motion
  let ev := ev.modCrusher i (fun c => { c with history := appendHistory c.history ev.s.lineClock })
  let ev := ev.stopRestart i
  match prior with
  | .blocked _ => (ev.raiseLinked i .relief).reliefNotice i none
  | _ =>
    let ev := if (ev.slot i).lockout.state then ev else ev.raiseLinked i .relief
    let ev := ev.stopMotion i
    let ev := if prior = .calibrating then ev.endCal i .failed .relief else ev
    ((ev.openEpisode i prior).setMotion i .relief).reliefNotice i none

/-! ### Recovery (R68, R69) -/

/-- The drive of RECOVERING at a valid position: SLOW throughout (R69). -/
def Ev.recoverStep (ev : Ev) (i : SlotId) (p : Nat) : Ev :=
  let x := ev.slot i
  match x.crusher.episode.bind (·.target) with
  | none => ev
  | some t =>
    match toward p t x.cp.db with
    | .drive d => ev.driveTo i true p t d
    | .arrived => (ev.holdDrive i).modCrusher i (fun c => { c with settle := ev.timer x.cp.settle })

/-- The recovery target before the close limit is applied (R68). -/
def Crusher.recoveryAim (c : Crusher) : Option Int :=
  match c.episode with
  | none => none
  | some e =>
    match e.returnTo, c.move with
    | .moving, some m => some m.target
    | _, _ => e.pPre.map Int.ofNat

/-- A cone enters RECOVERING (R68). R69 names the drive for a valid reading and for one that becomes invalid; at an entry with a reading
already invalid the drive stays at HOLD, no POSITION_INVALID is recorded and the first valid reading begins the comparison. DESIGN
CHOICE (log 36). -/
def Ev.enterRecovering (ev : Ev) (i : SlotId) : Ev :=
  let x := ev.slot i
  let target := x.crusher.recoveryAim.map (fun t => min t x.closeLimit)
  let ev := (ev.onEpisode i (fun e => { e with target := target })).setMotion i .recovering
  let ev := (ev.startTravel i).modCrusher i (fun c => { c with settle := none })
  match (ev.slot i).position.valid, (ev.slot i).position.last with
  | true, some p => ev.recoverStep i p
  | _, _ => ev

/-! ### Relief end (R66, R67, R74) -/

/-- The repeat rule (R67). -/
def Ev.trampRepeat (ev : Ev) (i : SlotId) : Ev :=
  let ev := ev.record i .trampRepeat
  let ev := (ev.finishMove i .failed .trampRepeat).1
  let ev := ev.modCrusher i (fun c => { c with episode := none })
  (ev.enterBlocked i .trampRepeat).reliefNotice i (some .trampRepeat)

/-- A relief end in RELIEF (R67, R74). Of an abandoned episode RELIEF is lowered ahead of the RELIEF notice; R74 orders the two in no way.
DESIGN CHOICE (log 47). -/
def Ev.reliefOver (ev : Ev) (i : SlotId) : Ev :=
  let ev := ev.prune i
  let c := ev.crusher i
  if c.episode.any (·.abandoned) then
    let ev := (ev.modCrusher i (fun c => { c with episode := none })).setMotion i .idle
    ((ev.lowerLinked i .relief).reliefNotice i (some .abandoned)).check i
  else if c.history.length ≥ (ev.slot i).cp.reliefN then ev.trampRepeat i
  else (ev.enterRecovering i).reliefNotice i (some .recovering)

/-- A relief end (R66, R67). In a state that is neither RELIEF nor BLOCKED no episode is open: the history is pruned, RELIEF is
lowered and the state stays (R66). -/
def Ev.reliefEnd (ev : Ev) (i : SlotId) : Ev :=
  match (ev.crusher i).motion with
  | .relief => ev.reliefOver i
  | .blocked .trampRepeat | .blocked .recoveryFail => ev.reliefNotice i (some .recorded)
  | .blocked _ => (ev.lowerLinked i .relief).reliefNotice i (some .recorded)
  | _ => ((ev.prune i).lowerLinked i .relief).reliefNotice i (some .recorded)

/-! ### The end of a recovery (R70, R71) -/

/-- The slot continues after a completed recovery, by return state and move record (R70). -/
def Ev.afterRecovery (ev : Ev) (i : SlotId) (back : EpisodeReturn) : Ev :=
  let x := ev.slot i
  match back, x.crusher.move with
  | .idle, _ | _, none => (ev.setMotion i .idle).check i
  | back, some m =>
    if !m.causes.isEmpty then
      let ev := (ev.holdDrive i).setMotion i .suspended
      let ev := ev.modCrusher i (fun c => { c with suspension := ev.timer (x.cp.suspLimit * 1000) })
      ev.onMove i (fun m => { m with returnTo := .moving, remaining := x.cp.travel * 1000 })
    else if back = .moving then Ev.follow ((ev.setMotion i .moving).finishDone i) i
    else Ev.follow ((ev.startTravel i).enterMoving i) i

/-- The recovery completes (R70, R72). -/
def Ev.completeRecovery (ev : Ev) (i : SlotId) : Ev :=
  let back := ((ev.crusher i).episode.map (·.returnTo)).getD .idle
  let ev := ev.modCrusher i (fun c =>
    { c with travel := none, settle := none, episode := none,
             restart := ev.timer ((ev.slot i).cp.restartDelay * 1000) })
  ((ev.lowerLinked i .relief).raiseLinked i .recoveryDelay).afterRecovery i back

/-- The settle timer expires in RECOVERING (R69, R70). -/
def Ev.recoverySettled (ev : Ev) (i : SlotId) : Ev :=
  let x := ev.slot i
  match x.crusher.episode.bind (·.target), x.position.last with
  | some t, some p => if toward p t x.cp.db = .arrived then ev.completeRecovery i else ev.recoverStep i p
  | _, _ => ev

/-- The recovery fails (R71). -/
def Ev.failRecovery (ev : Ev) (i : SlotId) : Ev :=
  let ev := (ev.stopMotion i).record i .moveTimeout
  let ev := (ev.finishMove i .failed .timeout).1
  (ev.modCrusher i (fun c => { c with episode := none })).enterBlocked i .recoveryFail

/-- The reading becomes invalid in RECOVERING (R69). -/
def Ev.recoveryLost (ev : Ev) (i : SlotId) : Ev :=
  ((ev.holdDrive i).modCrusher i (fun c => { c with settle := none })).record i .positionInvalid

/-! ### Lockout of a crusher slot (R54, R72, R74, R94) -/

/-- What a lockout assertion ends, by motion state (R54). -/
def Ev.lockoutWork (ev : Ev) (i : SlotId) : Ev :=
  match (ev.crusher i).motion with
  | .blocked _ => ev
  | .relief =>
    let ev := (ev.finishMove i .failed .lockout).1
    let ev := ev.discardAll i .lockout
    (ev.onEpisode i (fun e => { e with abandoned := true })).lowerLinked i .relief
  | .recovering =>
    let ev := (ev.finishMove i .failed .lockout).1
    let ev := ev.discardAll i .lockout
    let ev := (ev.stopMotion i).modCrusher i (fun c => { c with episode := none })
    (ev.setMotion i .idle).lowerLinked i .relief
  | .calibrating => (ev.discardAll i .lockout).endCal i .failed .lockout
  | _ => ((ev.finishMove i .failed .lockout).1).discardAll i .lockout

/-- A crusher's lockout input asserts (R54): on the linked feeder LOCKOUT takes the place of the reasons lowered. The close of an episode
in RECOVERING is a start-check event (R74), whose wear block may raise CALIBRATE (R82); one notice carries the set after the event (R117). -/
def Ev.crusherLockout (ev : Ev) (i : SlotId) : Ev :=
  let wasRecovering := (ev.crusher i).motion = .recovering
  let ev := ev.holdDrive i
  let ev := ((ev.lockoutWork i).stopRestart i).lockLinked i
  if wasRecovering then (ev.check i).mergeLinked i else ev

/-- A crusher's lockout input releases (R54, R74). -/
def Ev.crusherUnlock (ev : Ev) (i : SlotId) : Ev :=
  let ev := ev.lowerLinked i .lockout
  let c := ev.crusher i
  let ev := if c.motion = .relief ∧ c.episode.any (·.abandoned) then ev.raiseLinked i .relief else ev
  ev.check i

end Sys2Proof.Machine
end

