-- ==== Sys2Proof/Machine/Authority.lean ====
section
/-! DEFINITION. The authority unit as shared operations (chapter 7): the holder check, a change of holder with its consequences, the
selectors, the line stop, the lockout inputs and the start checks of the line. -/

namespace Sys2Proof.Machine

open Sys2Proof

/-! ### The holder check (R119) -/

/-- Why the holder check refuses a port on a slot, when it does (R119). -/
def State.holderRefusal (s : State) (p : Port) (i : SlotId) : Option Reason :=
  if (s.slots.get i).holder = some p then none
  else
    match s.localStation i with
    | some q => if q = p then some .authority else some .localMode
    | none => some .authority

/-- The reason of the lowest-numbered slot of a list that the holder check refuses (R155, R156). -/
def State.holderRefusals (s : State) (p : Port) (l : List SlotId) : Option Reason := l.findSome? (s.holderRefusal p)

/-! ### A change of holder (R118, R125) -/

/-- Step 1 of R125: every queued entry of origin X ends DISCARDED(HANDOVER), oldest first. The line change unit receives these
discards after step 3, when its item is already terminal. -/
def Ev.handoverEntries (ev : Ev) (i : SlotId) (x : Port) : Ev :=
  let mine := fun (e : Entry) => e.origin == .port x
  ((ev.crusher i).queue.filter mine).foldl (fun ev e => ev.announceDiscard i .handover e) (ev.dropEntries i mine)

/-- Step 2 of R125: a move record of origin X takes HANDOVER into its cause set. -/
def Ev.handoverMove (ev : Ev) (i : SlotId) (x : Port) : Ev :=
  if (ev.crusher i).move.any (fun m => m.entry.origin == .port x) then ev.addCause i .handover else ev

/-- Steps 1 to 3 of R125 for a holder change away from port X. -/
def Ev.handover (ev : Ev) (i : SlotId) (x : Port) : Ev :=
  ((ev.handoverEntries i x).handoverMove i x).changeHandover i x

/-- A slot's holder changes, with the consequences of R125 and one AUTHORITY notice; a holder that stays as it was sends none
(R118). -/
def Ev.setHolder (ev : Ev) (i : SlotId) (h : Option Port) (cause : AuthCause) : Ev :=
  let before := (ev.slot i).holder
  if before = h then ev
  else
    let ev := ev.modSlot i (fun x => { x with holder := h })
    let ev :=
      match before with
      | some x => ev.handover i x
      | none => ev
    ev.notify (some i) (.authority before h cause)

/-! ### The selectors (R124) -/

/-- A selector goes from REMOTE to LOCAL: each slot of the station's area passes to it, in slot order (R124). -/
def Ev.selectorToLocal (ev : Ev) (p : Port) : Ev :=
  ev.each slotIds (fun ev i => if (ev.slot i).area.station = some p then ev.setHolder i (some p) .selector else ev)

/-- A selector goes from LOCAL to REMOTE: each slot of the area that the station holds passes to NONE (R124), one after the other in slot
order with all its consequences; R124 gives no order here. DESIGN CHOICE (log 41). -/
def Ev.selectorToRemote (ev : Ev) (p : Port) : Ev :=
  ev.each slotIds (fun ev i =>
    if (ev.slot i).area.station = some p ∧ (ev.slot i).holder = some p then ev.setHolder i none .selector else ev)

/-- The holders after a reset: NONE, with the LOCAL selectors applied, and no AUTHORITY notice (R118). -/
def State.resetHolders (s : State) : State :=
  { s with slots := PerSlot.of (fun i => { s.slots.get i with holder := s.localStation i }) }

/-- The re-examination after a WRITE_PARAMS that changes a slot's AREA or gives it a kind (R3; one change of holder, log 18).
The notice carries the cause AREA also where a slot of kind NONE is given a kind, where R118 leaves AREA or KIND open. DESIGN CHOICE
(log 51). -/
def Ev.reexamine (ev : Ev) (i : SlotId) : Ev :=
  let x := ev.slot i
  let keep :=
    match x.holder with
    | some .plant => some Port.plant
    | some p => if x.area.station = some p then some p else none
    | none => none
  ev.setHolder i ((ev.s.localStation i).or keep) .area

/-! ### The line stop (R53, R94, R104, R127) -/

/-- The line stop reaches a crusher slot (R53, R94). -/
def Ev.lineStopCrusher (ev : Ev) (i : SlotId) : Ev :=
  match (ev.crusher i).motion with
  | .calibrating => ev.failCal i .lineStop
  | _ => ev.addCause i .lineStop

/-- The line stop asserts: the LINE_STOP notice, then the slots in slot order (R127, R159). A FEEDER_STATE notice that a crusher's steps
raise for its linked feeder joins at the crusher's turn. DESIGN CHOICE (log 39). -/
def Ev.lineStopAsserted (ev : Ev) : Ev :=
  (ev.notify none (.lineStop true)).each slotIds (fun ev i =>
    match (ev.slot i).kind with
    | .jaw | .cone => ev.lineStopCrusher i
    | .feeder => if (ev.feeder i).run = .running then ev.enterRun i .stopped .lineStop else ev
    | .unused => ev)

/-- The start check at every crusher slot, in slot order (R127, R129). -/
def Ev.checkLine (ev : Ev) : Ev :=
  ev.each slotIds (fun ev i => if (ev.slot i).kind.isCrusher then ev.check i else ev)

/-- The line stop releases (R127). -/
def Ev.lineStopReleased (ev : Ev) : Ev := (ev.notify none (.lineStop false)).checkLine

/-! ### The lockout inputs (R54, R106, R126) -/

/-- A slot's lockout input asserts (R126). -/
def Ev.lockoutAsserted (ev : Ev) (i : SlotId) : Ev :=
  match (ev.slot i).kind with
  | .jaw | .cone => ev.crusherLockout i
  | .feeder => if (ev.feeder i).run = .stopped then ev else ev.enterRun i .stopped .lockout
  | .unused => ev

/-- A slot's lockout input releases (R126). -/
def Ev.lockoutReleased (ev : Ev) (i : SlotId) : Ev :=
  if (ev.slot i).kind.isCrusher then ev.crusherUnlock i else ev

/-! ### The running feedback (R102) -/

/-- The running feedback is released: a loss of running where the run is confirmed (R102). -/
def Ev.feedbackLost (ev : Ev) (i : SlotId) : Ev :=
  if (ev.feeder i).run = .running ∧ (ev.feeder i).confirmTimer = none then
    (ev.record i .feederFault).enterRun i .fault .feederFault
  else ev

/-! ### The checks of changing requests (R120) -/

/-- The slot a request names, when it is one of 0..7 that `p` admits (R1). -/
def State.slotOf (s : State) (b : Byte) (p : Slot → Bool) : Option SlotId :=
  match slotOfByte b with
  | some i => if p (s.slots.get i) then some i else none
  | none => none

/-- Checks 3 to 6 of R120 for a request that adds a move: LOCKOUT, LINE_STOP, HOLD_SPAN, BLOCKED. -/
def State.moveGate (s : State) (i : SlotId) : Option Reason :=
  let x := s.slots.get i
  if x.lockout.state then some .lockout
  else if s.lineStop.state then some .lineStop
  else if s.held i then some .holdSpan
  else
    match x.crusher.motion with
    | .blocked _ => some .blocked
    | _ => none

end Sys2Proof.Machine
end

