-- ==== Sys2Proof/Machine/Operands.lean ====
section
/-! DEFINITION. Operands: the payloads of requests (section 11.3, R174), their admitted lengths, and the commissioning records,
recipe bodies, sets and numbers they carry, with the ranges of R4, R5, R11 and R136. -/

namespace Sys2Proof.Machine

open Sys2Proof

/-! ### Fields (section 11.2) -/

/-- The byte at an offset of a payload. -/
def byteAt (p : List Byte) (k : Nat) : Byte := p.getD k 0

/-- Two bytes, high byte first. -/
def wordAt (p : List Byte) (k : Nat) : Nat := (byteAt p k).toNat * 256 + (byteAt p (k + 1)).toNat

/-- Two bytes, high byte first, in two's complement. -/
def signedAt (p : List Byte) (k : Nat) : Int := if wordAt p k < 32768 then wordAt p k else (wordAt p k : Int) - 65536

/-- A slot set. -/
def slotSetAt (p : List Byte) (k : Nat) : SlotSet := byteAt p k

/-- A condition kind set, three bytes (section 11.2). -/
def kindSetAt (p : List Byte) (k : Nat) : Nat :=
  ((byteAt p k).toNat * 256 + (byteAt p (k + 1)).toNat) * 256 + (byteAt p (k + 2)).toNat

/-! ### Admitted lengths (R174) -/

/-- The record length of a kind (R174). -/
def Kind.recordLength : Kind → Nat
  | .unused => 1
  | .jaw | .cone => 44
  | .feeder => 24

/-- WRITE_PARAMS: 9 on slot 0xFF; otherwise by the kind in the first byte, which must name one (R173 step 3, R174). -/
def paramsLength (slot : Byte) (p : List Byte) : Bool :=
  if slot = lineSlot then p.length == 9
  else
    match p with
    | [] => false
    | b :: _ =>
      match Kind.ofByte b with
      | some k => p.length == k.recordLength
      | none => false

/-- SAVE_RECIPE: 4 + n + 6k (R174). -/
def recipeLength (p : List Byte) : Bool :=
  let n := (byteAt p 2).toNat
  decide (4 + n ≤ p.length) && p.length == 4 + n + 6 * (byteAt p (3 + n)).toNat

/-- Whether a request code admits the payload's length (R174). -/
def ReqCode.admits (c : ReqCode) (r : Request) : Bool :=
  let n := r.payload.length
  match c with
  | .echo => decide (n ≤ 238)
  | .readSlot | .readRecipe | .abortChange | .lockParams | .take | .release => n == 1
  | .readQueue | .readLine | .readReliefs | .readNote | .recallGap | .suspend | .resume | .flush | .calibrate
  | .clearBlock | .startFeed | .stopFeed | .startLine | .lineReset => n == 0
  | .hand | .setGap | .stepGap | .go | .clearConditions | .subscribe => n == 2
  | .postNote => decide (2 ≤ n)
  | .setHold | .applyRecipe | .setMask | .clearMask => n == 4
  | .setRate => n == 5
  | .saveRecipe => recipeLength r.payload
  | .writeParams => paramsLength r.slot r.payload

/-! ### Commissioning records (R4, R5, R11) -/

/-- LINKED_FEEDER: a slot, or 0xFF for none (R174). Another value lies outside the field's range. -/
def linkAt (p : List Byte) (k : Nat) : Option (Option SlotId) :=
  if byteAt p k = 0xFF then some none else (slotOfByte (byteAt p k)).map some

/-- The crusher record of a payload, when its enumerations name values (R4, R174). -/
def crusherRecord (p : List Byte) : Option CrusherParams := do
  let inverted ← flagOfByte (byteAt p 3)
  let autoTrim ← flagOfByte (byteAt p 33)
  let linked ← linkAt p 39
  let area ← Area.ofByte (byteAt p 40)
  let levelIn ← yesNoOfByte (byteAt p 42)
  let powerIn ← yesNoOfByte (byteAt p 43)
  return {
    g := wordAt p 1, inverted := inverted, pLo := wordAt p 4, pHi := wordAt p 6, cm := (byteAt p 8).toNat,
    envMin := wordAt p 9, envMax := wordAt p 11, db := (byteAt p 13).toNat, slowBand := wordAt p 14,
    settle := wordAt p 16, travel := wordAt p 18, suspLimit := wordAt p 20, drainLimit := wordAt p 22,
    drainFixed := wordAt p 24, cavEmpty := wordAt p 26, wearMax := wordAt p 28, wearRate := wordAt p 30,
    trimStep := (byteAt p 32).toNat, autoTrim := autoTrim, calTol := (byteAt p 34).toNat,
    reliefN := (byteAt p 35).toNat, reliefWindow := wordAt p 36, restartDelay := (byteAt p 38).toNat,
    linkedFeeder := linked, area := area, nearFull := (byteAt p 41).toNat, levelIn := levelIn, powerIn := powerIn }

/-- The feeder record of a payload, when its enumerations and SERVED name values (R5, R174). -/
def feederRecord (p : List Byte) : Option FeederParams := do
  let served ← slotOfByte (byteAt p 1)
  let binRel ← BinRel.ofByte (byteAt p 2)
  let area ← Area.ofByte (byteAt p 23)
  return {
    served := some served, binRel := binRel, rMin := wordAt p 3, rMax := wordAt p 5, rampUp := wordAt p 7,
    rampDn := wordAt p 9, kl := (byteAt p 11).toNat, kw := (byteAt p 12).toNat, wLim := wordAt p 13,
    period := wordAt p 15, runConfirm := wordAt p 17, capLow := wordAt p 19, capHigh := wordAt p 21, area := area }

def within (a b x : Nat) : Bool := decide (a ≤ x) && decide (x ≤ b)

/-- The ranges of R4, with the orderings of R11. -/
def CrusherParams.inRange (c : CrusherParams) : Bool :=
  within 1 65535 c.g && within 0 16383 c.pLo && within c.pLo 16383 c.pHi && within 1 200 c.cm && within 0 4095 c.envMin
    && within c.envMin 4095 c.envMax && within 1 63 c.db && within 0 2000 c.slowBand && within 500 10000 c.settle
    && within 10 600 c.travel && within 10 3600 c.suspLimit && within 5 600 c.drainLimit && within 5 600 c.drainFixed
    && within 0 1000 c.cavEmpty && within 0 400 c.wearMax && within 0 65535 c.wearRate && within 1 100 c.trimStep
    && within 0 200 c.calTol && within 2 8 c.reliefN && within 60 3600 c.reliefWindow && within 2 120 c.restartDelay
    && within 1 4 c.nearFull

/-- The ranges of R5, with the ordering of R11. -/
def FeederParams.inRange (f : FeederParams) : Bool :=
  within 0 1000 f.rMin && within f.rMin 1000 f.rMax && within 1 1000 f.rampUp && within 1 1000 f.rampDn && within 0 255 f.kl
    && within 0 255 f.kw && within 0 1500 f.wLim && within 100 5000 f.period && within 500 10000 f.runConfirm
    && within 0 1000 f.capLow && within 0 1000 f.capHigh

def Record.kind : Record → Kind
  | .blank => .unused
  | .crusher k _ => k
  | .feeder _ => .feeder

/-- The AREA of the record. -/
def Record.area : Record → Area
  | .blank => .noArea
  | .crusher _ c => c.area
  | .feeder f => f.area

/-- The record a payload carries, when every enumerated field names a value. -/
def recordOf (p : List Byte) : Option Record :=
  match Kind.ofByte (byteAt p 0) with
  | some .unused => some .blank
  | some .jaw => (crusherRecord p).map (.crusher .jaw)
  | some .cone => (crusherRecord p).map (.crusher .cone)
  | some .feeder => (feederRecord p).map .feeder
  | none => none

/-- The bin thresholds a payload carries (R174). -/
def thresholdsOf (p : List Byte) : BinThresholds :=
  ⟨wordAt p 0, wordAt p 2, wordAt p 4, wordAt p 6, (byteAt p 8).toNat⟩

/-- EMPTY ≤ LOW ≤ HIGH ≤ FULL, each 0..1000, with HYS 0..100 (R11). -/
def BinThresholds.inRange (t : BinThresholds) : Bool :=
  within 0 t.low t.empty && within 0 t.high t.low && within 0 t.full t.high && within 0 1000 t.full && within 0 100 t.hys

/-! ### Recipe bodies (R136, R174) -/

/-- One coded entry of six bytes: slot, gap or Rb, mode, Ls. -/
structure RawEntry where
  slot : Byte
  value : Nat
  mode : Byte
  ls : Nat
  deriving DecidableEq, Repr

def rawEntries (p : List Byte) (k : Nat) : Nat → List RawEntry
  | 0 => []
  | n + 1 => ⟨byteAt p k, wordAt p (k + 1), byteAt p (k + 3), wordAt p (k + 4)⟩ :: rawEntries p (k + 6) n

/-- The entry of a raw entry, when it names a slot, its values lie in their ranges and its form matches the slot's present
kind (R135, R136). The Ls bytes of a gap entry are not read. DESIGN CHOICE (log 50). -/
def RawEntry.entry (s : State) (e : RawEntry) : Option RecipeEntry :=
  match slotOfByte e.slot with
  | none => none
  | some i =>
    let kind := (s.slots.get i).kind
    if e.mode = 0xFF then
      if kind.isCrusher ∧ e.value ≤ 4095 then some ⟨i, .gap e.value⟩ else none
    else
      match RegMode.ofByte e.mode with
      | some m => if kind = .feeder ∧ e.value ≤ 1000 ∧ e.ls ≤ 1000 then some ⟨i, .feed e.value m e.ls⟩ else none
      | none => none

/-- Entries in slot order, one per slot (R135). -/
def insertBySlot (e : RecipeEntry) : List RecipeEntry → List RecipeEntry
  | [] => [e]
  | x :: xs => if e.slot ≤ x.slot then e :: x :: xs else x :: insertBySlot e xs

def sortBySlot (l : List RecipeEntry) : List RecipeEntry := l.foldr insertBySlot []

def distinctSlots : List RecipeEntry → Bool
  | [] => true
  | x :: xs => xs.all (fun y => y.slot != x.slot) && distinctSlots xs

/-- A recipe name: 1 to 16 characters, each in 0x20..0x7E (R135). -/
def nameGood (n : List Byte) : Bool :=
  within 1 16 n.length && n.all (fun b => within 0x20 0x7E b.toNat)

/-- The entry a slot gives in the current form (R136). -/
def State.currentEntry (s : State) (i : SlotId) : Option RecipeEntry :=
  let x := s.slots.get i
  match x.kind with
  | .jaw | .cone => some ⟨i, .gap x.crusher.tf⟩
  | .feeder => some ⟨i, .feed x.feeder.rb x.feeder.mode x.feeder.ls⟩
  | .unused => none

/-- The record a SAVE_RECIPE payload asks for, when it passes the BAD_VALUE checks: its number, and its new contents (R136). Entries
that stand in a payload of form current or erase are not read. DESIGN CHOICE (log 50). -/
def State.recipeOf (s : State) (p : List Byte) : Option (SlotId × Option Recipe) :=
  let n := (byteAt p 2).toNat
  let name := (p.drop 3).take n
  match slotOfByte (byteAt p 0) with
  | none => none
  | some num =>
    if byteAt p 1 = 2 then some (num, none)
    else if !nameGood name then none
    else if byteAt p 1 = 1 then
      match slotIds.filterMap s.currentEntry with
      | [] => none
      | l => some (num, some ⟨name, l⟩)
    else if byteAt p 1 = 0 then
      let k := (byteAt p (3 + n)).toNat
      let found := (rawEntries p (4 + n) k).map (·.entry s)
      let l := found.filterMap id
      if within 1 8 k && found.all Option.isSome && distinctSlots l then some (num, some ⟨name, sortBySlot l⟩) else none
    else none

end Sys2Proof.Machine
end

