-- ==== Sys2Proof/Machine/Channels.lean ====
section
/-! DEFINITION. The field channels (chapter 10): analog and position samples, discrete inputs with their debounce, tonnage edges and
the reversal dwell, as the commands of the input scanner and the output drivers. -/

namespace Sys2Proof

/-! ### Raw inputs (R162, R163, R165) -/

/-- The full scale of an input (R162). -/
def AnalogInput.fullScale : AnalogInput → Nat
  | .power _ => 1500
  | _ => 1000

/-- The number of ones among the fourteen position bits. -/
def ones (b : BitVec 14) : Nat := ((List.range 14).filter (fun k => b.getLsbD k)).length

/-- Whether a sample is good: start bit present, even parity over the position bits and the parity bit, status clear (R163). -/
def PositionAnswer.good (a : PositionAnswer) : Bool :=
  a.start && (ones a.bits + a.parity.toNat) % 2 == 0 && !a.status

/-- The position of a good sample under the slot's SENSE (R163). -/
def PositionAnswer.position (a : PositionAnswer) (inverted : Bool) : Nat :=
  if inverted then 16383 - a.bits.toNat else a.bits.toNat

/-- Whether a closed contact reads as asserted: the lockout and line-stop loops are asserted when open (R165). -/
def DiscreteInput.asserted (k : DiscreteInput) (closed : Bool) : Bool :=
  match k with
  | .lockout _ | .lineStop => !closed
  | _ => closed

end Sys2Proof

namespace Sys2Proof.Machine

open Sys2Proof

/-! ### Analog inputs (R161, R162) -/

/-- Whether a raw sample is valid: RAW_LO − 80 .. RAW_HI + 80 (R161). -/
def sampleValid (raw : Nat) : Bool := decide (575 ≤ raw) && decide (raw ≤ 3356)

/-- The scaled value: (raw − RAW_LO) × FS / (RAW_HI − RAW_LO), truncated and clamped into 0..FS (R162). -/
def scaled (fs raw : Nat) : Nat :=
  let q := Int.tdiv (((raw : Int) - 655) * fs) 2621
  if q < 0 then 0 else if q > fs then fs else q.toNat

/-- What a sample hands to the consumers of its input (R161). -/
inductive AnalogEvent where
  | value (v : Nat)
  | toInvalid
  | toValid (v : Nat)
  | nothing
  deriving DecidableEq, Repr

/-- An input after a sample taken at a time, and the event it delivers (R161, R162). -/
def Analog.sample (a : Analog) (now fs raw : Nat) : Analog × AnalogEvent :=
  if sampleValid raw then
    let v := scaled fs raw
    (⟨true, v, some now⟩, if a.valid then .value v else .toValid v)
  else (⟨false, a.last, some now⟩, if a.valid then .toInvalid else .nothing)

/-- The clock at a periodic sample: one period after the input's last sample, or later (log 3). -/
def State.reachSample (s : State) (last : Option Nat) (period : Nat) : State :=
  match last with
  | some t => s.reach (t + period)
  | none => s

/-- A new valid cavity level reaches the slot's motion controller in DRAINING and its calibration run in the DRAIN stage (R43, R86,
R161). -/
def Ev.levelValue (ev : Ev) (i : SlotId) : Ev :=
  let x := ev.slot i
  if x.cavityEmpty then
    match x.crusher.motion with
    | .draining => Ev.follow (ev.leaveDraining i) i
    | .calibrating => if x.crusher.cal.any (fun r => r.stage == .drain) then ev.enterApproach i else ev
    | _ => ev
  else ev

/-- Whether a slot is a feeder that serves crusher `c`. -/
def Slot.serves (x : Slot) (c : SlotId) : Bool := x.kind == .feeder && x.fp.served == some c

/-- The cavity level becomes invalid: LEVEL_INVALID on each feeder in LEVEL mode that serves the crusher (R115). -/
def Ev.levelLost (ev : Ev) (c : SlotId) : Ev :=
  ev.each slotIds (fun ev i =>
    if (ev.slot i).serves c && (ev.feeder i).mode == .level then ev.record i .levelInvalid else ev)

/-- The power becomes invalid: POWER_INVALID on each feeder that serves the crusher, where POWER_IN is "yes" (R115). -/
def Ev.powerLost (ev : Ev) (c : SlotId) : Ev :=
  if (ev.slot c).cp.powerIn then
    ev.each slotIds (fun ev i => if (ev.slot i).serves c then ev.record i .powerInvalid else ev)
  else ev

/-- Whether an analog input is in use (R161). -/
def State.analogInUse (s : State) : AnalogInput → Bool
  | .level i => (s.slots.get i).kind.isCrusher && (s.slots.get i).cp.levelIn
  | .power i => (s.slots.get i).kind.isCrusher && (s.slots.get i).cp.powerIn
  | .bin => true

def State.analog (s : State) : AnalogInput → Analog
  | .level i => (s.slots.get i).level
  | .power i => (s.slots.get i).power
  | .bin => s.bin.input

def State.setAnalog (s : State) (k : AnalogInput) (a : Analog) : State :=
  match k with
  | .level i => s.modSlot i (fun x => { x with level := a })
  | .power i => s.modSlot i (fun x => { x with power := a })
  | .bin => { s with bin := { s.bin with input := a } }

/-- What the consumers of an input make of its event (R161). -/
def Ev.analogEvent (ev : Ev) (k : AnalogInput) (e : AnalogEvent) : Ev :=
  match k, e with
  | .level i, .value _ | .level i, .toValid _ => ev.levelValue i
  | .level i, .toInvalid => ev.levelLost i
  | .power i, .toInvalid => ev.powerLost i
  | .bin, .value v | .bin, .toValid v => ev.binLevel v
  | .bin, .toInvalid => ev.binLost
  | _, _ => ev

/-- ANALOG_SAMPLE (R161, R162). -/
def execAnalogSample (k : AnalogInput) (raw : BitVec 12) (s : State) : Host.Outcome State Fault Refusal :=
  if s.analogInUse k then
    let s' := s.reachSample (s.analog k).sampledAt Config.analogMs
    let r := (s.analog k).sample s'.clock k.fullScale raw.toNat
    if s.phase = .running then .next (((Ev.of (s'.setAnalog k r.1)).analogEvent k r.2).commit) else .next s
  else .next s

/-! ### The position sensor (R163, R164) -/

/-- What a sample delivers to the motion controller (R164). -/
inductive PositionEvent where
  | reading (p : Nat)
  | toInvalid
  | toValid (p : Nat)
  | nothing
  deriving DecidableEq, Repr

/-- A position channel after a sample taken at a time, and what it delivers (R164; before the first good sample the count of bad
samples rises to 3, log 17). -/
def PosChannel.sample (c : PosChannel) (now : Nat) (inverted : Bool) (a : PositionAnswer) : PosChannel × PositionEvent :=
  if a.good then
    let p := a.position inverted
    (⟨true, 0, some p, some now⟩, if c.valid then .reading p else .toValid p)
  else if c.valid then
    if c.bad < 2 then (⟨true, c.bad + 1, c.last, some now⟩, .nothing)
    else (⟨false, 3, c.last, some now⟩, .toInvalid)
  else (⟨false, min (c.bad + 1) 3, c.last, some now⟩, .nothing)

/-- A valid reading takes SENSOR out of the move's cause set (R47, R70). -/
def Ev.sensorBack (ev : Ev) (i : SlotId) : Ev :=
  if (ev.crusher i).move.any (fun m => m.causes.sensor) then
    let ev := ev.onMove i (fun m => { m with causes := m.causes.put .sensor false })
    Ev.follow (ev.testCauses i) i
  else ev

/-- A valid reading at the motion controller, the relief monitor and the calibration tracker (R44, R47, R69, R87, R90, R92). -/
def Ev.positionReading (ev : Ev) (i : SlotId) (p : Nat) : Ev :=
  match (ev.crusher i).motion with
  | .moving => ev.moveStep i p
  | .suspended | .relief => ev.sensorBack i
  | .recovering =>
    let ev := ev.sensorBack i
    if (ev.crusher i).settle.isSome then ev else ev.recoverStep i p
  | .calibrating => ev.calReading i p
  | _ => ev

/-- The reading becomes invalid (R47, R69, R87, R90, R92). -/
def Ev.positionGone (ev : Ev) (i : SlotId) : Ev :=
  match (ev.crusher i).motion with
  | .moving | .settling => Ev.follow (ev.positionLost i) i
  | .draining | .suspended => ev.record i .positionInvalid
  | .recovering => ev.recoveryLost i
  | .calibrating => ev.calLost i
  | _ => ev

/-- A delivery of the position channel: the output driver re-tests its guard, and the slot's blocks act (R164, R167). -/
def Ev.positionEvent (ev : Ev) (i : SlotId) (e : PositionEvent) : Ev :=
  match e with
  | .nothing => ev
  | .reading p | .toValid p => (ev.retestDrive i).positionReading i p
  | .toInvalid => (ev.retestDrive i).positionGone i

/-- POSITION_SAMPLE (R163, R164). -/
def execPositionSample (i : SlotId) (a : PositionAnswer) (s : State) : Host.Outcome State Fault Refusal :=
  let x := s.slots.get i
  if s.phase = .running ∧ x.kind.isCrusher then
    let s' := s.reachSample x.position.sampledAt Config.positionMs
    let r := x.position.sample s'.clock x.cp.inverted a
    .next (((Ev.of (s'.modSlot i (fun x => { x with position := r.1 }))).positionEvent i r.2).commit)
  else .next s

/-! ### Tonnage pulses (R166) -/

/-- Whether a rising edge is accepted (R166). -/
def Slot.edgeAccepted (x : Slot) (now : Nat) : Bool :=
  match x.lastEdge with
  | none => true
  | some t => decide (t + Config.edgeMs ≤ now)

/-- TONNAGE_EDGE (R166, R80). -/
def execTonnageEdge (i : SlotId) (s : State) : Host.Outcome State Fault Refusal :=
  let x := s.slots.get i
  if x.kind.isCrusher && x.edgeAccepted s.clock then
    whenRunning s (fun ev => (ev.modSlot i (fun x => { x with lastEdge := some ev.now })).tonnagePulse i)
  else .next s

/-! ### Discrete inputs (R165) -/

def State.discrete (s : State) : DiscreteInput → Discrete
  | .relief i => (s.slots.get i).relief
  | .lockout i => (s.slots.get i).lockout
  | .running i => (s.slots.get i).running
  | .lineStop => s.lineStop
  | .selectorA => s.selectorA
  | .selectorB => s.selectorB

def State.setDiscrete (s : State) (k : DiscreteInput) (d : Discrete) : State :=
  match k with
  | .relief i => s.modSlot i (fun x => { x with relief := d })
  | .lockout i => s.modSlot i (fun x => { x with lockout := d })
  | .running i => s.modSlot i (fun x => { x with running := d })
  | .lineStop => { s with lineStop := d }
  | .selectorA => { s with selectorA := d }
  | .selectorB => { s with selectorB := d }

/-- Whether an input is debounced: the relief switch of a cone, the running feedback of a feeder, every lockout, the line stop, the
selectors, less selector B while port B is disabled (R165). -/
def State.discreteInUse (s : State) : DiscreteInput → Bool
  | .relief i => (s.slots.get i).kind == .cone
  | .running i => (s.slots.get i).kind == .feeder
  | .selectorB => !s.portBStrap
  | _ => true

/-- A raw level at an input: a level different from the debounced state starts the timer, a return to it stops the timer, and a
level that was already there changes nothing (R165). -/
def Discrete.change (d : Discrete) (inUse : Bool) (now : Nat) (level : Bool) : Discrete :=
  if level = d.raw then d
  else ⟨level, d.state, if inUse ∧ level ≠ d.state then some (now + Config.debounceMs) else none⟩

/-- DISCRETE_INPUT_CHANGE (R165). An unpowered part sees no input; in start-up the level and its timer are kept (log 14). -/
def execDiscreteInputChange (k : DiscreteInput) (closed : Bool) (s : State) : Host.Outcome State Fault Refusal :=
  if s.phase = .off then .next s
  else .next (s.setDiscrete k ((s.discrete k).change (s.discreteInUse k) s.clock (k.asserted closed)))

/-- What the consumers of a debounced event make of it (R165). -/
def Ev.discreteEvent (ev : Ev) (k : DiscreteInput) (asserted : Bool) : Ev :=
  match k, asserted with
  | .relief i, true => ev.reliefStart i
  | .relief i, false => ev.reliefEnd i
  | .lockout i, true => ev.lockoutAsserted i
  | .lockout i, false => ev.lockoutReleased i
  | .running _, true => ev
  | .running i, false => ev.feedbackLost i
  | .lineStop, true => ev.lineStopAsserted
  | .lineStop, false => ev.lineStopReleased
  | .selectorA, true => ev.selectorToLocal .stnA
  | .selectorA, false => ev.selectorToRemote .stnA
  | .selectorB, true => ev.selectorToLocal .stnB
  | .selectorB, false => ev.selectorToRemote .stnB

/-- DEBOUNCE_EXPIRY (R165): the debounced state takes the raw level, and the change is delivered as one event. Before the end of start-up,
which delivers no debounced event and acts on the scanned states (R62, R183), the state stays as scanned, and an expiry that falls due
stands until start-up has ended (DEDUCED, log 14). -/
def execDebounceExpiry (k : DiscreteInput) (s : State) : Host.Outcome State Fault Refusal :=
  let d := s.discrete k
  match d.timer with
  | none => .next s
  | some t =>
    let s' := (s.reach t).setDiscrete k ⟨d.raw, d.raw, none⟩
    if s.phase ≠ .running then .next (s.reach t)
    else if d.raw ≠ d.state then .next ((Ev.of s').discreteEvent k d.raw).commit
    else .next s'

/-! ### The reversal dwell (R168) -/

/-- DWELL_EXPIRY (R168): the driver applies the command that stands, with the close guard. -/
def execDwellExpiry (i : SlotId) (s : State) : Host.Outcome State Fault Refusal :=
  match (s.slots.get i).driver.dwell with
  | none => .next s
  | some t =>
    whenRunning (s.reach t) (fun ev =>
      (ev.modSlot i (fun x => { x with driver := { x.driver with dwell := none } })).retestDrive i)

end Sys2Proof.Machine
end

