-- ==== Sys2Proof/Machine/Timers.lean ====
section
/-! DEFINITION. The timer expiries. An expiry happens only while its timer runs; it is what tells that the timer's time has come
(log 3). -/

namespace Sys2Proof.Machine

open Sys2Proof

/-- The expiry of a timer, as an event: nothing where the timer is stopped. -/
def State.expire (s : State) (t : Timer) (f : Ev → Ev) : Host.Outcome State Fault Refusal :=
  match t with
  | none => .next s
  | some d => whenRunning (s.reach d) f

/-! ### Motion timers -/

/-- The travel timer expires (R46, R87, R90, R92). In RECOVERING the timer is the recovery timer, whose expiry is
RECOVERY_TIMER_EXPIRY (R71). -/
def Ev.travelOut (ev : Ev) (i : SlotId) : Ev :=
  match (ev.crusher i).motion with
  | .draining | .moving | .settling =>
    Ev.follow (((ev.holdDrive i).record i .moveTimeout).finishMove i .failed .timeout) i
  | .calibrating => ev.calTravelOut i
  | _ => ev

/-- TRAVEL_EXPIRY (R46). -/
def execTravelExpiry (i : SlotId) (s : State) : Host.Outcome State Fault Refusal :=
  let c := (s.slots.get i).crusher
  if c.motion = .recovering then .next s else s.expire c.travel (·.travelOut i)

/-- The settle timer of a move expires: within DB of P_t the move ends, otherwise the slot is MOVING again (R45). -/
def Ev.moveSettled (ev : Ev) (i : SlotId) : Ev :=
  let x := ev.slot i
  match x.crusher.move, x.position.last with
  | some m, some p =>
    if toward p m.target x.cp.db = .arrived then Ev.follow (ev.finishDone i) i else Ev.follow (ev.enterMoving i) i
  | _, _ => ev

/-- The settle timer expires (R45, R69, R90, R92). -/
def Ev.settleOut (ev : Ev) (i : SlotId) : Ev :=
  let ev := ev.modCrusher i (fun c => { c with settle := none })
  match (ev.crusher i).motion with
  | .settling => ev.moveSettled i
  | .recovering => ev.recoverySettled i
  | .calibrating => ev.calSettled i
  | _ => ev

/-- SETTLE_EXPIRY (R45). -/
def execSettleExpiry (i : SlotId) (s : State) : Host.Outcome State Fault Refusal :=
  s.expire (s.slots.get i).crusher.settle (·.settleOut i)

/-- The suspension timer expires (R48). SUSPEND_EXPIRED is recorded ahead of the end of the move, as R159 says of MOVE_TIMEOUT alone.
DESIGN CHOICE (log 46). -/
def Ev.suspensionOut (ev : Ev) (i : SlotId) : Ev :=
  match (ev.crusher i).motion with
  | .suspended => Ev.follow ((ev.record i .suspendExpired).finishMove i .failed .suspendExpired) i
  | _ => ev

/-- SUSPENSION_EXPIRY (R48). -/
def execSuspensionExpiry (i : SlotId) (s : State) : Host.Outcome State Fault Refusal :=
  s.expire (s.slots.get i).crusher.suspension (·.suspensionOut i)

/-- The drain-limit timer expires (R43, R86). DRAIN_TIMEOUT is recorded ahead of the end of a move, as R86 says of a calibration; R43
names the end first, and R159 settles MOVE_TIMEOUT alone. DESIGN CHOICE (log 46). -/
def Ev.drainLimitOut (ev : Ev) (i : SlotId) : Ev :=
  match (ev.crusher i).motion with
  | .draining => Ev.follow ((ev.record i .drainTimeout).finishMove i .failed .drainTimeout) i
  | .calibrating => (ev.record i .drainTimeout).failCal i .drainTimeout
  | _ => ev

/-- DRAIN_LIMIT_EXPIRY (R43, R86). -/
def execDrainLimitExpiry (i : SlotId) (s : State) : Host.Outcome State Fault Refusal :=
  s.expire (s.slots.get i).crusher.drainLimit (·.drainLimitOut i)

/-- The fixed-drain timer expires (R43, R86). -/
def Ev.fixedDrainOut (ev : Ev) (i : SlotId) : Ev :=
  match (ev.crusher i).motion with
  | .draining => Ev.follow (ev.leaveDraining i) i
  | .calibrating => ev.enterApproach i
  | _ => ev

/-- FIXED_DRAIN_EXPIRY (R43, R86). -/
def execFixedDrainExpiry (i : SlotId) (s : State) : Host.Outcome State Fault Refusal :=
  s.expire (s.slots.get i).crusher.fixedDrain (·.fixedDrainOut i)

/-! ### Relief timers -/

/-- RECOVERY_TIMER_EXPIRY (R71). -/
def execRecoveryTimerExpiry (i : SlotId) (s : State) : Host.Outcome State Fault Refusal :=
  let c := (s.slots.get i).crusher
  if c.motion = .recovering then s.expire c.travel (·.failRecovery i) else .next s

/-- RESTART_DELAY_EXPIRY (R72). -/
def execRestartDelayExpiry (i : SlotId) (s : State) : Host.Outcome State Fault Refusal :=
  s.expire (s.slots.get i).crusher.restart (fun ev =>
    (ev.modCrusher i (fun c => { c with restart := none })).lowerLinked i .recoveryDelay)

/-! ### Feeder timers -/

/-- A regulation period: the computation, and the timer again with PERIOD while the feeder runs (R110). -/
def Ev.regulationPeriod (ev : Ev) (i : SlotId) : Ev :=
  let ev := ev.regulate i
  if (ev.feeder i).run = .running then
    ev.modFeeder i (fun f => { f with regTimer := ev.timer (ev.slot i).fp.period })
  else ev

/-- REGULATION_PERIOD (R110). -/
def execRegulationPeriod (i : SlotId) (s : State) : Host.Outcome State Fault Refusal :=
  s.expire (s.slots.get i).feeder.regTimer (·.regulationPeriod i)

/-- The run-confirm timer expires (R102). -/
def Ev.confirmOut (ev : Ev) (i : SlotId) : Ev :=
  let ev := ev.modFeeder i (fun f => { f with confirmTimer := none })
  if (ev.slot i).running.state then ev else (ev.record i .feederFault).enterRun i .fault .feederFault

/-- RUN_CONFIRM_EXPIRY (R102). -/
def execRunConfirmExpiry (i : SlotId) (s : State) : Host.Outcome State Fault Refusal :=
  s.expire (s.slots.get i).feeder.confirmTimer (·.confirmOut i)

end Sys2Proof.Machine
end

