-- ==== Sys2Proof/Machine/Recipes.lean ====
section
/-! DEFINITION. Line changes and recipes (chapter 8): the creation of a change with its skip rules, waves 1 and 2, the insertion of
entries into move queues, the end of a change by an abort or its timer. -/

namespace Sys2Proof.Machine

open Sys2Proof

/-! ### Insertion into a move queue (R36 to R38) -/

/-- Make room for an entry in a full queue, or refuse it (R38). -/
def Ev.makeRoom (ev : Ev) (i : SlotId) (e : Entry) : Option Ev :=
  let q := (ev.crusher i).queue
  if q.length < Config.queuePlaces then some ev
  else if e.priority then
    match newestOrdinary q with
    | some old => some ((ev.modCrusher i (fun c => { c with queue := dropNewestOrdinary q })).endEntry i .queueFull old)
    | none => none
  else none

/-- An entry joins the queue; an envelope clamp at its enqueue is recorded when it joins (R31, R36). -/
def Ev.joinQueue (ev : Ev) (i : SlotId) (e : Entry) : Ev :=
  let ev := ev.modCrusher i (fun c => { c with queue := insertEntry c.queue e })
  if e.adjusted then ev.record i .envelope else ev

/-- The envelope check at enqueue of a gap (R31): none where it is refused, else the applied gap and the adjusted mark. -/
def Ev.enqueueGap (ev : Ev) (i : SlotId) (gap : Nat) : Option (Nat × Bool) :=
  let k := envelopeCheck (ev.slot i).cp gap
  if k.inside then some (k.clamped, false) else if ev.masked i .envelope then some (k.clamped, true) else none

/-! ### The creation of a change (R139 to R141) -/

/-- Whether an entry's form matches a kind (R141 skip rule 1). -/
def RecipeValue.fits : RecipeValue → Kind → Bool
  | .gap _, k => k.isCrusher
  | .feed .., k => k == .feeder

/-- Skip rule 5: a crusher in BLOCKED, or a feeder under PARAM_FAULT (R141). -/
def Slot.barred (x : Slot) : Bool :=
  match x.kind, x.crusher.motion with
  | .jaw, .blocked _ | .cone, .blocked _ => true
  | .feeder, _ => x.feeder.paramFault
  | _, _ => false

/-- The skip rules (R141). -/
def State.skipReason (s : State) (p : Port) (e : RecipeEntry) : Option Reason :=
  let x := s.slots.get e.slot
  if !e.value.fits x.kind then some .badSlot
  else
    match s.holderRefusal p e.slot with
    | some r => some r
    | none =>
      if x.lockout.state then some .lockout
      else if s.held e.slot then some .holdSpan
      else if x.barred then some .blocked
      else none

/-- The wave of an entry: 2 for a gap, 1 for a rate below the feeder's present rate, else 3 (R140, R142). R142 sorts the items that stay
PENDING; a feed item SKIPPED at creation takes its wave by the same comparison, whatever its slot's kind. DESIGN CHOICE (log 42). -/
def State.waveOf (s : State) (e : RecipeEntry) : Nat :=
  match e.value with
  | .gap _ => 2
  | .feed rb _ _ => if rb < (s.slots.get e.slot).feeder.rb then 1 else 3

/-- The item of a recipe entry, after the skip rules (R140, R141). A PENDING item holds the reason NONE, which R140 does not state.
DESIGN CHOICE (log 52). -/
def State.itemOf (s : State) (p : Port) (e : RecipeEntry) : Item :=
  let skip := s.skipReason p e
  { slot := e.slot, kind := (s.slots.get e.slot).kind, value := e.value, wave := s.waveOf e,
    state := if skip.isSome then .skipped else .pending, reason := skip.getD .noReason, applied := none }

/-- The next change id: the last plus one, or 1 after 255 (R139). -/
def nextChangeId (n : Nat) : Nat := if n ≥ 255 then 1 else n + 1

/-! ### Waves 1 and 2 (R142, R143) -/

/-- Wave 1: each PENDING feeder item that lowers its feeder's rate is applied, in slot order (R142; the order of its notices, log 55). -/
def Ev.waveOne (ev : Ev) : Ev :=
  match ev.s.change with
  | none => ev
  | some c => (c.items.filter (fun x => x.state == .pending && x.wave == 1)).foldl (fun ev x => ev.applyFeedItem x) ev

/-- The SET entry of a crusher item (R143). -/
def Change.entry (c : Change) (gap applied : Nat) (adjusted : Bool) : Entry :=
  { origin := .port c.origin, code := .applyRecipe, tag := c.tag, reqno := c.reqno, ack := c.ack, kind := .set,
    requested := gap, applied := some applied, adjusted := adjusted, priority := false, staged := c.mode == .staged,
    changeId := some c.id }

/-- Enqueue a crusher item (R143). An ACTIVE item holds the reason NONE, which R140 does not state. DESIGN CHOICE (log 52). -/
def Ev.enqueueItem (ev : Ev) (c : Change) (x : Item) : Ev :=
  match x.value with
  | .feed .. => ev
  | .gap g =>
    match ev.s.moveGate x.slot, ev.enqueueGap x.slot g with
    | some r, _ => ev.setItem x.slot .failed r
    | none, none => ev.setItem x.slot .failed .envelope
    | none, some (applied, adjusted) =>
      let e := c.entry g applied adjusted
      match ev.makeRoom x.slot e with
      | none => ev.setItem x.slot .failed .queueFull
      | some ev =>
        (((ev.setItem x.slot .active .noReason).setApplied x.slot applied).joinQueue x.slot e).check x.slot

/-- Wave 2: each PENDING crusher item is enqueued, in slot order; then the test of R144 (R143; the order of its notices, log 55). -/
def Ev.waveTwo (ev : Ev) : Ev :=
  match ev.s.change with
  | none => ev
  | some c =>
    let ev := ev.onChange (fun c => { c with wave := 2 })
    ((c.items.filter (fun x => x.state == .pending && x.isGap)).foldl (fun ev x => ev.enqueueItem c x) ev).advanceChange

/-! ### The end of a change before its items are done (R148, R149) -/

/-- Every open item takes its end: PENDING becomes SKIPPED, ACTIVE becomes FAILED, each with the reason (R148, R149; log 24). -/
def Change.closeItems (c : Change) (r : Reason) : Change :=
  { c with items := c.items.map (fun x =>
      match x.state with
      | .pending => { x with state := .skipped, reason := r }
      | .active => { x with state := .failed, reason := r }
      | _ => x) }

/-- Step 2 at one slot: the entries of the change end DISCARDED(ABORTED). -/
def Ev.abortEntries (ev : Ev) (id : Nat) (i : SlotId) : Ev :=
  ev.discardWhere i (fun e => e.changeId == some id) .aborted

/-- Step 2: the discards in slot order, then the start check of each slot they leave IDLE with entries in its queue (R148). -/
def Ev.abortQueues (ev : Ev) (id : Nat) : Ev :=
  let hit := slotIds.filter (fun i => (ev.crusher i).queue.any (fun e => e.changeId == some id))
  let ev := ev.each hit (fun ev i => ev.abortEntries id i)
  ev.each hit (fun ev i =>
    if (ev.crusher i).motion = .idle ∧ !(ev.crusher i).queue.isEmpty then ev.check i else ev)

/-- Step 3: each move of the change ends FAILED(ABORTED), in slot order (R148). -/
def Ev.abortMoves (ev : Ev) (id : Nat) : Ev :=
  ev.each slotIds (fun ev i =>
    if (ev.crusher i).move.any (fun m => m.entry.changeId == some id) then
      Ev.follow (ev.finishMove i .failed .aborted) i
    else ev)

/-- The change is ended before its items are done (R148, R149). -/
def Ev.endChange (ev : Ev) (r : Reason) : Ev :=
  match ev.s.change with
  | none => ev
  | some c => (((ev.onChange (·.closeItems r)).abortQueues c.id).abortMoves c.id).concludeChange

/-- CHANGE_TIMER_EXPIRY (R149). -/
def execChangeTimerExpiry (s : State) : Host.Outcome State Fault Refusal :=
  match s.change with
  | none => .next s
  | some c => whenRunning (s.reach c.timer) (·.endChange .timeout)

end Sys2Proof.Machine
end

