-- ==== Sys2Proof/Machine/Store.lean ====
section
/-! DEFINITION. The parameter store (chapter 12): the values a write carries, its start and completion, and the pending final
replies. -/

namespace Sys2Proof.Machine

open Sys2Proof

/-! ### Working copies as record contents (R180) -/

def Slot.paramImage (x : Slot) : ParamImage := ⟨x.kind, x.cp, x.fp, x.lock, x.preFreeze⟩

/-- The calibration record: in use for a crusher (R180). A record with no field in use stands as `CalImage.blank`, and a start-up that finds
it beside a parameter record of a crusher loads that. DESIGN CHOICE (log 53). -/
def Slot.calImage (x : Slot) : CalImage := if x.kind.isCrusher then ⟨x.crusher.z, x.crusher.lastCal⟩ else .blank

/-- The wear record: a crusher's figures or a feeder's settings, the other fields not in use (R8, R180). The fields not in use stand as in
`WearImage.blank`, and a start-up that finds them beside a parameter record of another kind loads them so. DESIGN CHOICE (log 53). -/
def Slot.wearImage (x : Slot) : WearImage :=
  match x.kind with
  | .jaw | .cone =>
    { WearImage.blank with tf := x.crusher.tf, w := x.crusher.w, accHigh := x.crusher.acc / 256, tonnes := x.crusher.tonnes,
                           wAtMove := x.crusher.wAtMove }
  | .feeder => { WearImage.blank with rb := x.feeder.rb, mode := x.feeder.mode, ls := x.feeder.ls }
  | .unused => .blank

/-- The working copy of a record, as a write carries it (R181). -/
def State.image (s : State) : RecId → Image
  | .param i => .param (s.slots.get i).paramImage
  | .cal i => .cal (s.slots.get i).calImage
  | .wear i => .wear (s.slots.get i).wearImage
  | .line => .line s.bin.thresholds
  | .recipe n => .recipe (s.recipes.get n)

/-! ### The stored records -/

/-- The contents of a stored record. -/
def Nonvolatile.image (v : Nonvolatile) : RecId → Image
  | .param i => .param (v.params.get i).contents
  | .cal i => .cal (v.cals.get i).contents
  | .wear i => .wear (v.wears.get i).contents
  | .line => .line v.line.contents
  | .recipe n => .recipe (v.recipes.get n).contents

/-- The check value stored with a record. -/
def Nonvolatile.check (v : Nonvolatile) : RecId → Word16
  | .param i => (v.params.get i).check
  | .cal i => (v.cals.get i).check
  | .wear i => (v.wears.get i).check
  | .line => v.line.check
  | .recipe n => (v.recipes.get n).check

/-- Whether a stored record passes its check value (R180, R183). -/
def Nonvolatile.good (v : Nonvolatile) (r : RecId) : Bool := v.check r == (v.image r).check

/-- Store a record's new values with their check value (R180, R182). -/
def Nonvolatile.put (v : Nonvolatile) (r : RecId) (x : Image) (check : Word16) : Nonvolatile :=
  match r, x with
  | .param i, .param c => { v with params := v.params.set i ⟨c, check⟩ }
  | .cal i, .cal c => { v with cals := v.cals.set i ⟨c, check⟩ }
  | .wear i, .wear c => { v with wears := v.wears.set i ⟨c, check⟩ }
  | .line, .line c => { v with line := ⟨c, check⟩ }
  | .recipe n, .recipe c => { v with recipes := v.recipes.set n ⟨c, check⟩ }
  | _, _ => v

/-- A failed write leaves a record its old contents; whether they still pass the check value is not stated (log 12). -/
def Nonvolatile.doubt (v : Nonvolatile) (r : RecId) (n : Nat) : Nonvolatile := v.put r (v.image r) (Config.checkLeft n)

/-- A power loss during a write leaves the record with whatever the store holds (R182; log 11). -/
def Nonvolatile.tear (v : Nonvolatile) (r : RecId) (n : Nat) : Nonvolatile :=
  match r with
  | .param i => { v with params := v.params.set i (Config.tornParam n) }
  | .cal i => { v with cals := v.cals.set i (Config.tornCal n) }
  | .wear i => { v with wears := v.wears.set i (Config.tornWear n) }
  | .line => { v with line := Config.tornLine n }
  | .recipe k => { v with recipes := v.recipes.set k (Config.tornRecipe n) }

/-- The store after a loss of power, with the write in progress torn (R182). -/
def State.tornStore (s : State) : Nonvolatile :=
  match s.writing with
  | none => s.store
  | some w => s.store.tear w.record s.freeDraws

/-! ### Writing (R181, R182) -/

/-- The lowest-numbered dirty record (R181). -/
def State.nextDirty (s : State) : Option RecId := RecId.every.find? s.isDirty

/-- STORE_WRITE_START (R181). -/
def execStoreWriteStart (s : State) : Host.Outcome State Fault Refusal :=
  if s.phase = .running then
    match s.writing, s.nextDirty with
    | none, some r =>
      .next { s with dirty := s.dirty &&& ~~~ BitVec.twoPow 33 r.number, writing := some ⟨r, s.image r, (s.image r).check⟩ }
    | _, _ => .next s
  else .next s

/-- An accepted request with the ack-wanted mark leaves a pending final reply on its record (R181). -/
def Ev.awaitStore (ev : Ev) (p : PendingReply) (ack : Bool) : Ev :=
  if ack then ev.onState (fun s => { s with replies := s.replies ++ [p] }) else ev

/-- The pending final replies that the completion of a record's write answers, in the order their requests were taken (R181). -/
def Ev.answerPending (ev : Ev) (r : RecId) (failed : Bool) : Ev :=
  let mine := ev.s.replies.filter (fun p => p.record == r)
  let ev := ev.onState (fun s => { s with replies := s.replies.filter (fun p => p.record != r) })
  mine.foldl (fun ev p =>
    ev.finalReply p.port true
      (if failed then ⟨p.code.code, .failed, .storeFault, p.tag, p.reqno, p.slot, .empty⟩
       else ⟨p.code.code, p.disp, p.reason, p.tag, p.reqno, p.slot, .empty⟩)) ev

/-- Where STORE_FAULT is recorded (R151, R182). -/
def Ev.recordStoreFault (ev : Ev) (r : RecId) : Ev :=
  match r with
  | .param i | .cal i | .wear i => ev.record i .storeFault
  | .line | .recipe _ => ev.recordLine

/-- The write of a record completes (R182). -/
def Ev.writeDone (ev : Ev) (w : StoreWrite) (matched : Bool) : Ev :=
  let ev := ev.onState (fun s => { s with writing := none })
  if matched then
    (ev.onState (fun s => { s with store := s.store.put w.record w.image w.check })).answerPending w.record false
  else
    let ev := ev.onState (fun s => { s with store := s.store.doubt w.record s.freeDraws, freeDraws := s.freeDraws + 1 })
    (ev.recordStoreFault w.record).answerPending w.record true

/-- STORE_WRITE_COMPLETE (R182). -/
def execStoreWriteComplete (matched : Bool) (s : State) : Host.Outcome State Fault Refusal :=
  match s.writing with
  | none => .next s
  | some w => whenRunning s (·.writeDone w matched)

end Sys2Proof.Machine
end

