-- ==== Sys2Proof/Machine/Params.lean ====
section
/-! DEFINITION. WRITE_PARAMS as shared operations (R9 to R16, R99): its checks in order, and what an accepted write does. -/

namespace Sys2Proof.Machine

open Sys2Proof

/-! ### Checks (R10 to R12, R16) -/

/-- Whether a slot's parameter fault stands (R9). -/
def Slot.paramFaulted (x : Slot) : Bool :=
  match x.kind with
  | .jaw | .cone => x.crusher.motion == .blocked .paramFault
  | .feeder => x.feeder.paramFault
  | .unused => x.unusedFault

/-- Check 2: lock mode and authority (R10). -/
def Slot.writeAdmission (x : Slot) (p : Port) : Option Reason :=
  let maintenance := p == .plant && x.lockout.state
  match x.lock with
  | .openMode =>
    if x.kind = .unused then (if p = .plant then none else some .authority)
    else if x.holder = some p then none else some .authority
  | .commissioned => if maintenance then none else some .locked
  | .frozen => some .locked
  | .fixed => if x.paramFaulted && maintenance then none else some .locked

/-- Whether a line change names the slot (R10 check 3). -/
def State.inChange (s : State) (i : SlotId) : Bool :=
  match s.change with
  | some c => c.items.any (fun x => x.slot == i)
  | none => false

/-- Whether another slot's working record names the slot (R16). -/
def State.linkedTo (s : State) (i : SlotId) : Bool :=
  slotIds.any (fun j =>
    let x := s.slots.get j
    j != i && ((x.kind.isCrusher && x.cp.linkedFeeder == some i) || (x.kind == .feeder && x.fp.served == some i)))

/-- Whether a valid recipe record holds an entry for the slot (R16). -/
def State.inRecipe (s : State) (i : SlotId) : Bool :=
  slotIds.any (fun n => (s.recipes.get n).any (fun r => r.entries.any (fun e => e.slot == i)))

/-- The links of a record, judged by the kinds the slots have (R11). Neither names the slot itself: after the write it would be of
the wrong kind (R6; log 16). -/
def State.linksValid (s : State) (i : SlotId) (r : Record) : Bool :=
  match r with
  | .blank => true
  | .crusher _ c =>
    match c.linkedFeeder with
    | none => true
    | some f =>
      f != i && (s.slots.get f).kind == .feeder
        && slotIds.all (fun j => j == i || !((s.slots.get j).kind.isCrusher && (s.slots.get j).cp.linkedFeeder == some f))
  | .feeder f =>
    match f.served with
    | none => false
    | some c => c != i && (s.slots.get c).kind.isCrusher

/-- Whether a record is valid for the slot (R11). -/
def State.recordValid (s : State) (i : SlotId) (r : Record) : Bool :=
  (match r with
    | .blank => true
    | .crusher k c => c.inRange && !(k == .jaw && c.autoTrim)
    | .feeder f => f.inRange)
    && s.linksValid i r
    && (r.kind == (s.slots.get i).kind || !(s.linkedTo i || s.inRecipe i))

/-- Whether the slot is busy (R12). -/
def Slot.writeBusy (x : Slot) : Bool :=
  match x.kind with
  | .jaw | .cone =>
    (match x.crusher.motion with
      | .idle | .blocked _ => false
      | _ => true) || !x.crusher.queue.isEmpty
  | .feeder => x.feeder.run != .stopped
  | .unused => false

/-- The first check that fails for a write of a slot, in R10's order from check 2. -/
def State.writeRefusal (s : State) (i : SlotId) (p : Port) (payload : List Byte) : Option Reason :=
  let x := s.slots.get i
  let kindChange := match Kind.ofByte (byteAt payload 0) with
    | some k => k != x.kind
    | none => false
  match x.writeAdmission p with
  | some r => some r
  | none =>
    if kindChange && s.inChange i then some .busy
    else
      match recordOf payload with
      | none => some .badValue
      | some r =>
        if !s.recordValid i r then some .badValue
        else if x.writeBusy then some .notIdle
        else if s.isWriting (.param i) then some .storeBusy
        else none

/-! ### The inhibit reasons a crusher holds (R14) -/

/-- Whether an IDLE or BLOCKED crusher holds a reason raised on its linked feeder (R14). -/
def Slot.holdsReason (x : Slot) (r : Inhibit) : Bool :=
  match r with
  | .lockout => x.lockout.state
  | .relief =>
    x.crusher.motion == .blocked .trampRepeat || x.crusher.motion == .blocked .recoveryFail
      || (x.kind == .cone && x.relief.state && x.crusher.episode.isNone)
  | .recoveryDelay => x.crusher.restart.isSome
  | .calibrate => x.crusher.motion == .blocked .wearLimit
  | .drain => false

/-- The inhibit reasons in the order in which those that one crusher holds are lowered on a feeder and raised on another at one event, each
with its notice (R14, R16, R117). The rules give no order. DESIGN CHOICE (log 43). -/
def Inhibit.every : List Inhibit := [.relief, .recoveryDelay, .drain, .calibrate, .lockout]

/-- Lower on a feeder every reason the crusher holds. -/
def Ev.lowerHeld (ev : Ev) (x : Slot) (f : SlotId) : Ev :=
  (Inhibit.every.filter x.holdsReason).foldl (fun ev r => ev.lower f r) ev

/-- Raise on a feeder every reason the crusher holds. -/
def Ev.raiseHeld (ev : Ev) (x : Slot) (f : SlotId) : Ev :=
  (Inhibit.every.filter x.holdsReason).foldl (fun ev r => ev.raise f r) ev

/-- A change of LINKED_FEEDER moves the reasons (R14). -/
def Ev.moveReasons (ev : Ev) (x : Slot) (old new : Option SlotId) : Ev :=
  if old = new then ev
  else
    let ev := match old with
      | some f => ev.lowerHeld x f
      | none => ev
    match new with
    | some f => ev.raiseHeld x f
    | none => ev

/-! ### A write that keeps the kind (R9, R13 to R15) -/

/-- A lowered WEAR_MAX (R14). A W above a WEAR_MAX that the write leaves as it is, of which R14 does not speak, is lowered and recorded too;
no run has one. DEDUCED (log 28). -/
def Ev.lowerWear (ev : Ev) (i : SlotId) : Ev :=
  let x := ev.slot i
  if x.crusher.w ≤ x.cp.wearMax then ev
  else
    let m := x.cp.wearMax
    let ev := (ev.modCrusher i (fun c => { c with w := m, wAtMove := min c.wAtMove m })).markDirty (.wear i)
    let ev := ev.record i .wearLimit
    if ev.masked i .wearLimit then ev
    else
      match (ev.crusher i).motion with
      | .idle => ev.enterBlocked i .wearLimit
      | .blocked .wearLimit => ev
      | .blocked _ => ev.modCrusher i (fun c => { c with wearBlock := true })
      | _ => ev

/-- A level input that LEVEL_IN takes out of use, or brings into use (R14, R161, R162). -/
def Ev.switchLevel (ev : Ev) (i : SlotId) (old new : Bool) : Ev :=
  if old = new then ev
  else if new then ev.modSlot i (fun x => { x with level := .unread })
  else
    let was := (ev.slot i).level.valid
    let ev := ev.modSlot i (fun x => { x with level := { x.level with valid := false } })
    if was then ev.levelLost i else ev

/-- A power input that POWER_IN takes out of use, or brings into use (R14, R161, R162). With POWER_IN "no" the transition records
no POWER_INVALID (R115; log 20). -/
def Ev.switchPower (ev : Ev) (i : SlotId) (old new : Bool) : Ev :=
  if old = new then ev
  else if new then ev.modSlot i (fun x => { x with power := .unread })
  else ev.modSlot i (fun x => { x with power := { x.power with valid := false } })

/-- T_f clamped into a narrowed envelope (R15). -/
def Ev.narrowEnvelope (ev : Ev) (i : SlotId) : Ev :=
  let x := ev.slot i
  let t := clampNat x.cp.envMin x.cp.envMax x.crusher.tf
  if t = x.crusher.tf then ev
  else ((ev.modCrusher i (fun c => { c with tf := t })).markDirty (.wear i)).record i .envelope

/-- Rb clamped into a narrowed rate range (R15). -/
def Ev.narrowRates (ev : Ev) (i : SlotId) : Ev :=
  let x := ev.slot i
  let rb := clampNat x.fp.rMin x.fp.rMax x.feeder.rb
  if rb = x.feeder.rb then ev
  else ((ev.modFeeder i (fun f => { f with rb := rb })).markDirty (.wear i)).record i .envelope

/-- The end of a parameter fault marks the calibration and wear records dirty (R9, R180). -/
def Ev.endFault (ev : Ev) (i : SlotId) : Ev := (ev.markDirty (.cal i)).markDirty (.wear i)

/-- An accepted write that leaves a slot of kind NONE as it is ends its parameter fault (R9). -/
def Ev.rewriteUnused (ev : Ev) (i : SlotId) : Ev :=
  if (ev.slot i).paramFaulted then (ev.endFault i).modSlot i (fun x => { x with unusedFault := false }) else ev

/-- An accepted write of a crusher slot that keeps its kind (R9, R14, R15). Its notices, those about other slots among them, join in the
order of R14's fields and then R15's. DESIGN CHOICE (log 49). -/
def Ev.rewriteCrusher (ev : Ev) (i : SlotId) (c : CrusherParams) : Ev :=
  let x := ev.slot i
  let ev := ev.modSlot i (fun x => { x with cp := c })
  let ev := ev.moveReasons x x.cp.linkedFeeder c.linkedFeeder
  let ev := if x.cp.area = c.area then ev else ev.reexamine i
  let ev := ev.lowerWear i
  let ev := (ev.switchLevel i x.cp.levelIn c.levelIn).switchPower i x.cp.powerIn c.powerIn
  let ev := ev.narrowEnvelope i
  if x.paramFaulted then ((ev.endFault i).setMotion i .idle).check i else ev

/-- An accepted write of a feeder slot that keeps its kind (R9, R14, R15). -/
def Ev.rewriteFeeder (ev : Ev) (i : SlotId) (f : FeederParams) : Ev :=
  let x := ev.slot i
  let ev := ev.modSlot i (fun x => { x with fp := f })
  let ev := if x.fp.area = f.area then ev else ev.reexamine i
  let ev := ev.narrowRates i
  if x.paramFaulted then (ev.endFault i).modFeeder i (fun f => { f with paramFault := false }) else ev

/-! ### A kind change (R16) -/

/-- A discrete input that comes into use takes its raw level at once (R165). -/
def Discrete.take (d : Discrete) : Discrete := ⟨d.raw, d.raw, none⟩

/-- A discrete input out of use. -/
def Discrete.idle (d : Discrete) : Discrete := ⟨d.raw, false, none⟩

/-- The slot as its new kind has it: the new record, the working state of R16, the channel group of R164 to R168. A cavity level or
power in use under both kinds starts unread like one that comes into use; R162 speaks of the latter alone. DESIGN CHOICE (log 34). -/
def Slot.reborn (x : Slot) (r : Record) : Slot :=
  let k := r.kind
  let cp := match r with
    | .crusher _ c => c
    | _ => .default
  let fp := match r with
    | .feeder f => f
    | _ => .default
  { x with
    kind := k, cp := cp, fp := fp, unusedFault := false, conds := 0, mask := k.defaultMask
    crusher := Crusher.fresh cp, feeder := Feeder.fresh fp
    relief := if k = .cone then x.relief.take else x.relief.idle
    running := if k = .feeder then x.running.take else x.running.idle
    level := .unread, power := .unread, position := .unread, lastEdge := none
    driver := if k.isCrusher then x.driver else .rest }

/-- A kind change (R16, R62, R3). LOCKOUT on the linked feeder, where the lockout input is active, then the relief start, at a change to
CONE with the relief switch asserted, then the re-examination of the holder; the rules do not order the three. DESIGN CHOICE (log 44). -/
def Ev.changeKind (ev : Ev) (i : SlotId) (r : Record) : Ev :=
  let x := ev.slot i
  let ev := match x.kind.isCrusher, x.cp.linkedFeeder with
    | true, some f => ev.lowerHeld x f
    | _, _ => ev
  let ev := (ev.modSlot i (·.reborn r)).holdDrive i
  let ev := ((ev.markDirty (.param i)).markDirty (.cal i)).markDirty (.wear i)
  let ev := if r.kind.isCrusher && x.lockout.state then ev.raiseLinked i .lockout else ev
  let ev := if r.kind = .cone ∧ (ev.slot i).relief.state then ev.reliefStart i else ev
  if r.kind = .unused then ev.setHolder i none .kind
  else if x.kind = .unused ∨ x.area ≠ r.area then ev.reexamine i
  else ev

/-! ### The accepted write (R13) -/

/-- What an accepted write of a slot does (R9, R13 to R16). -/
def Ev.writeRecord (ev : Ev) (i : SlotId) (r : Record) : Ev :=
  let ev := ev.markDirty (.param i)
  if r.kind ≠ (ev.slot i).kind then ev.changeKind i r
  else
    match r with
    | .blank => ev.rewriteUnused i
    | .crusher _ c => ev.rewriteCrusher i c
    | .feeder f => ev.rewriteFeeder i f

/-- Whether a write clamps T_f, Rb or W (R13, R14, R15). -/
def Slot.writeClamps (x : Slot) (r : Record) : Bool :=
  r.kind == x.kind &&
    match r with
    | .blank => false
    | .crusher _ c => clampNat c.envMin c.envMax x.crusher.tf != x.crusher.tf || decide (c.wearMax < x.crusher.w)
    | .feeder f => clampNat f.rMin f.rMax x.feeder.rb != x.feeder.rb

/-- The thresholds of the line are replaced, and the bin state is fixed again (R99). -/
def Ev.writeThresholds (ev : Ev) (t : BinThresholds) : Ev :=
  let ev := (ev.onState (fun s => { s with bin := { s.bin with thresholds := t } })).markDirty .line
  if ev.s.bin.state = .unknown then ev
  else ev.setBinState (t.plain ev.s.bin.lastValid) (some ev.s.bin.lastValid)

end Sys2Proof.Machine
end

