-- ==== Sys2Proof/Machine/Taking.lean ====
section
/-! DEFINITION. Taking a request (R173 to R176): the request number, the checks of the decoder, and the immediate reply. -/

namespace Sys2Proof.Machine

open Sys2Proof

/-- Whether a port takes a frame: start-up has ended, the port is enabled and its transmit queue has a free place (R170, R171,
R176, R178). -/
def State.takes (s : State) (p : Port) : Bool :=
  s.phase == .running && s.enabled p && decide ((s.ports.get p).tx.length < Config.txPlaces)

def State.modPort (s : State) (p : Port) (f : PortState → PortState) : State :=
  { s with ports := s.ports.set p (f (s.ports.get p)) }

/-- Step 1 of R173: the port's REQNO rises by 1, wrapping. -/
def State.countRequest (s : State) (p : Port) : State := s.modPort p (fun q => { q with reqno := q.reqno + 1 })

/-- The number of the request being taken (R173). -/
def Ev.reqno (ev : Ev) (p : Port) : Word16 := (ev.s.ports.get p).reqno

/-- The immediate reply of a request at a place among the event's replies (R175). -/
def Ev.answerAt (ev : Ev) (k : Nat) (c : ReqCode) (r : Request) (disp : Disposition) (reason : Reason) (body : ReplyBody) : Ev :=
  ev.immediateAt k r.port ⟨c.code, disp, reason, r.tag, ev.reqno r.port, r.slot, body⟩

/-- The immediate reply, behind the replies raised so far. -/
def Ev.answer (ev : Ev) (c : ReqCode) (r : Request) (disp : Disposition) (reason : Reason) (body : ReplyBody) : Ev :=
  ev.answerAt ev.replies.length c r disp reason body

/-- DONE with a payload. -/
def Ev.done (ev : Ev) (c : ReqCode) (r : Request) (body : ReplyBody) : Ev := ev.answer c r .done .noReason body

/-- A refusal: the REFUSED reply with an empty payload (R175; for TAKE, RELEASE and HAND refused as a whole, log 40); nothing else
changes (section 5.4). -/
def Ev.refuse (ev : Ev) (c : ReqCode) (r : Request) (reason : Reason) : Ev := ev.answer c r .refused reason .empty

/-- A request that its block takes from its first check on: where the first failing check gives a reason it is refused with it,
otherwise it has its effect (R120, R173). -/
def Ev.unless (ev : Ev) (c : ReqCode) (r : Request) (refusal : Option Reason) (effect : Ev → Ev) : Ev :=
  match refusal with
  | some reason => ev.refuse c r reason
  | none => effect ev

/-- A frame is taken as one event, or discarded (R171, R173). -/
def State.taking (s : State) (p : Port) (f : Ev → Ev) : State :=
  if s.takes p then (f (Ev.of (s.countRequest p))).commit else s

/-- Step 3 of R173: a payload whose length the code does not admit is refused BAD_VALUE, else the request is handed to its block. -/
def State.takeRequest (s : State) (c : ReqCode) (r : Request) (f : Ev → Ev) : State :=
  s.taking r.port (fun ev => if c.admits r then f ev else ev.refuse c r .badValue)

/-- Step 2 of R173: a KIND that is not a request code is refused BAD_KIND. -/
def State.takeBadKind (s : State) (kind : Byte) (r : Request) : State :=
  s.taking r.port (fun ev =>
    ev.immediateAt 0 r.port ⟨kind, .refused, .badKind, r.tag, ev.reqno r.port, r.slot, .empty⟩)

/-- BAD_SLOT for a SLOT other than 0xFF, for the requests with a line scope (R1; log 10). -/
def lineScope (r : Request) : Option Reason := if r.slot = lineSlot then none else some .badSlot

end Sys2Proof.Machine
end

