-- ==== Sys2Proof/Machine/Reads.lean ====
section
/-! DEFINITION. The requests that read (R17, R18, R60, R77, R133, R134, R138) and ECHO (R177). -/

namespace Sys2Proof.Machine

open Sys2Proof

/-! ### ECHO (R177) -/

def Ev.onEcho (ev : Ev) (r : Request) : Ev := ev.unless .echo r (lineScope r) (·.done .echo r (.echoed r.payload))

/-- ECHO (R177). -/
def execEcho (r : Request) (s : State) : Host.Outcome State Fault Refusal := .next (s.takeRequest .echo r (·.onEcho r))

/-! ### READ_SLOT (R17, R18, R34) -/

/-- The crusher fields of part 0 (R17). P_tf and E are present only when the relation is not UNORDERED (R18). -/
def Slot.crusherReport (x : Slot) : CrusherReport :=
  let c := x.crusher
  let rel := relationOf x.cp c.z c.w c.tf x.position
  { motion := c.motion
    causes := if c.motion = .suspended then c.move.map (·.causes) else none
    stage := if c.motion = .calibrating then c.cal.map (·.stage) else none
    tf := c.tf
    p := x.position.last
    pValid := x.position.valid
    pTf := if rel = .unordered then none else reportTarget x.cp c.z c.w c.tf
    e := if rel = .unordered then none else x.position.last.map (estimatedGap x.cp.g c.z c.w)
    relation := rel
    z := c.z
    w := c.w
    tonnes := c.tonnes
    wAtMove := c.wAtMove
    occupancy := c.queue.length
    headStaged := c.queue.head?.any (·.staged)
    recallDepth := c.stack.depth
    level := x.level.last
    levelValid := x.level.valid
    power := x.power.last
    powerValid := x.power.valid }

/-- The feeder fields of part 0 (R17). -/
def Slot.feederReport (x : Slot) : FeederReport :=
  { run := x.feeder.run
    inhibits := x.feeder.inhibits
    paramFault := x.feeder.paramFault
    rb := x.feeder.rb
    mode := x.feeder.mode
    ls := x.feeder.ls
    r := x.feeder.r
    seed := x.feeder.seed
    feedback := x.running.state
    served := x.fp.served
    binRel := x.fp.binRel }

/-- Part 0 of READ_SLOT (R17). -/
def Slot.report (x : Slot) : SlotReport :=
  { kind := x.kind
    area := x.area
    holder := x.holder
    lock := x.lock
    conds := x.conds
    mask := x.mask
    summary := x.summary
    crusher := if x.kind.isCrusher then some x.crusherReport else none
    feeder := if x.kind = .feeder then some x.feederReport else none }

/-- The commissioning record that part 1 of READ_SLOT returns: of the slot's kind (R4, R5, R17); AUTO_TRIM of a JAW reads off (R2). -/
def Slot.record (x : Slot) : Record :=
  match x.kind with
  | .unused => .blank
  | .jaw => .crusher .jaw { x.cp with autoTrim := false }
  | .cone => .crusher .cone x.cp
  | .feeder => .feeder x.fp

def Ev.onReadSlot (ev : Ev) (r : Request) : Ev :=
  match ev.s.slotOf r.slot (fun x => x.kind != .unused) with
  | none => ev.refuse .readSlot r .badSlot
  | some i =>
    if byteAt r.payload 0 = 0 then ev.done .readSlot r (.slotState (ev.slot i).report)
    else if byteAt r.payload 0 = 1 then ev.done .readSlot r (.slotRecord (ev.slot i).record (ev.slot i).lock)
    else ev.refuse .readSlot r .badValue

/-- READ_SLOT (R17). -/
def execReadSlot (r : Request) (s : State) : Host.Outcome State Fault Refusal :=
  .next (s.takeRequest .readSlot r (·.onReadSlot r))

/-! ### READ_QUEUE (R60) -/

/-- An entry as READ_QUEUE reports it (R35, R60). -/
def Entry.report (e : Entry) : EntryReport :=
  ⟨e.origin, e.tag, e.reqno, e.ack, e.kind, e.requested, e.applied, e.adjusted, e.priority, e.staged, e.changeId⟩

/-- The move record as READ_QUEUE reports it (R60). -/
def Crusher.moveReport (c : Crusher) (m : MoveRec) : MoveReport :=
  { entry := m.entry.report
    applied := m.applied
    target := m.target
    adjusted := m.adjusted.isSome
    suspension := if c.motion = .suspended then some ⟨m.returnTo, m.causes, m.remaining⟩ else none }

def Crusher.queueReport (c : Crusher) : QueueReport :=
  { motion := c.motion
    stage := if c.motion = .calibrating then c.cal.map (·.stage) else none
    move := c.move.map c.moveReport
    queue := c.queue.map Entry.report
    stack := c.stack.newestFirst
    depth := c.stack.depth
    lastCal := c.lastCal }

def Ev.onReadQueue (ev : Ev) (r : Request) : Ev :=
  match ev.s.slotOf r.slot (fun x => x.kind.isCrusher) with
  | none => ev.refuse .readQueue r .badSlot
  | some i => ev.done .readQueue r (.queue (ev.crusher i).queueReport)

/-- READ_QUEUE (R60). -/
def execReadQueue (r : Request) (s : State) : Host.Outcome State Fault Refusal :=
  .next (s.takeRequest .readQueue r (·.onReadQueue r))

/-! ### READ_LINE (R134) -/

def Slot.lineReport (x : Slot) : LineSlotReport := ⟨x.kind, x.area, x.holder, x.lockout.state, x.summary⟩

/-- An item of the line change as READ_LINE reports it (R134, R150). -/
def Item.report (x : Item) : ItemReport := ⟨x.slot, x.kind, x.state, x.reason⟩

/-- The line change as READ_LINE reports it, the timer's remaining time in whole seconds (R134, R150; log 19). -/
def State.changeReport (s : State) (c : Change) : ChangeReport :=
  ⟨c.id, c.origin, c.recipe, c.mode, c.wave, (c.timer - s.clock) / 1000, c.items.map Item.report⟩

def State.lineReport (s : State) : LineReport :=
  { time := s.lineClock
    slots := PerSlot.of (fun i => (s.slots.get i).lineReport)
    selectorA := s.selectorLocal .stnA
    selectorB := s.selectorLocal .stnB
    portBDisabled := s.portBStrap
    hold := s.hold
    held := s.heldSet
    lineStop := s.lineStop.state
    summary := s.lineSummary
    binState := s.bin.state
    binLevel := s.bin.lastValid
    thresholds := s.bin.thresholds
    notes := PerPort.of (fun p => (s.ports.get p).note.map (·.sender))
    change := s.change.map s.changeReport }

def Ev.onReadLine (ev : Ev) (r : Request) : Ev :=
  ev.unless .readLine r (lineScope r) (·.done .readLine r (.line ev.s.lineReport))

/-- READ_LINE (R134). -/
def execReadLine (r : Request) (s : State) : Host.Outcome State Fault Refusal :=
  .next (s.takeRequest .readLine r (·.onReadLine r))

/-! ### READ_RELIEFS (R77) -/

def State.reliefReport (s : State) (x : Slot) : ReliefReport :=
  let c := x.crusher
  { asserted := x.relief.state
    history := c.history
    count := c.history.length
    inWindow := (pruneHistory c.history s.lineClock x.cp.reliefWindow).length
    reliefN := x.cp.reliefN
    reliefWindow := x.cp.reliefWindow
    episode := c.episode
    recoveryRemaining := if c.motion = .recovering then s.remaining c.travel else none
    restartRemaining := s.remaining c.restart }

def Ev.onReadReliefs (ev : Ev) (r : Request) : Ev :=
  match ev.s.slotOf r.slot (fun x => x.kind == .cone) with
  | none => ev.refuse .readReliefs r .badSlot
  | some i => ev.done .readReliefs r (.reliefs (ev.s.reliefReport (ev.slot i)))

/-- READ_RELIEFS (R77). -/
def execReadReliefs (r : Request) (s : State) : Host.Outcome State Fault Refusal :=
  .next (s.takeRequest .readReliefs r (·.onReadReliefs r))

/-! ### READ_RECIPE (R138) -/

def Ev.onReadRecipe (ev : Ev) (r : Request) : Ev :=
  ev.unless .readRecipe r (lineScope r) (fun ev =>
    match slotOfByte (byteAt r.payload 0) with
    | none => ev.refuse .readRecipe r .badValue
    | some n => ev.done .readRecipe r (.recipe (ev.s.recipes.get n)))

/-- READ_RECIPE (R138). -/
def execReadRecipe (r : Request) (s : State) : Host.Outcome State Fault Refusal :=
  .next (s.takeRequest .readRecipe r (·.onReadRecipe r))

/-! ### READ_NOTE (R133) -/

def Ev.onReadNote (ev : Ev) (r : Request) : Ev :=
  ev.unless .readNote r (lineScope r) (fun ev =>
    match (ev.s.ports.get r.port).note with
    | none => ev.refuse .readNote r .empty
    | some n => (ev.onState (fun s => s.modPort r.port (fun q => { q with note := none }))).done .readNote r (.note n))

/-- READ_NOTE (R133). -/
def execReadNote (r : Request) (s : State) : Host.Outcome State Fault Refusal :=
  .next (s.takeRequest .readNote r (·.onReadNote r))

end Sys2Proof.Machine
end

