-- ==== Sys2Proof/Machine/Coordination.lean ====
section
/-! DEFINITION. The requests of the authority unit, the condition unit and the notice path: TAKE, RELEASE, HAND, POST_NOTE, SET_HOLD
(chapter 7), SET_MASK, CLEAR_MASK, CLEAR_CONDITIONS and SUBSCRIBE (chapter 9). -/

namespace Sys2Proof.Machine

open Sys2Proof

/-! ### Per-slot results (R121 to R123) -/

/-- The reply of a request with per-slot results: DONE where no slot was refused, REFUSED with the reason of the lowest-numbered
refused slot where none was granted, PARTIAL otherwise. -/
def Ev.answerSlots (ev : Ev) (c : ReqCode) (r : Request) (granted : List SlotId) (refused : List (SlotId × Reason)) : Ev :=
  let body := ReplyBody.slots (SlotSet.ofList granted) refused
  match refused with
  | [] => ev.answer c r .done .noReason body
  | (_, reason) :: _ =>
    if granted.isEmpty then ev.answer c r .refused reason body else ev.answer c r .partialDone .noReason body

/-- Judge each slot of a list: those a test refuses, with their reasons, and the rest. -/
def refusedSlots (l : List SlotId) (t : SlotId → Option Reason) : List (SlotId × Reason) :=
  l.filterMap (fun i => (t i).map (fun r => (i, r)))

def grantedSlots (l : List SlotId) (t : SlotId → Option Reason) : List SlotId := l.filter (fun i => (t i).isNone)

/-! ### TAKE (R121) -/

/-- Whether a port is a station whose area a slot does not lie in. -/
def Slot.foreign (x : Slot) (p : Port) : Bool := p != .plant && x.area.station != some p

/-- The first test of TAKE that refuses a slot (R121). -/
def State.takeRefusal (s : State) (p : Port) (i : SlotId) : Option Reason :=
  let x := s.slots.get i
  if x.kind = .unused then some .badSlot
  else if (s.localStation i).any (fun q => q != p) then some .localMode
  else if x.foreign p then some .area
  else
    match x.holder with
    | none => none
    | some q => if q = p then none else some .authority

/-- A request refused as a whole carries the empty payload of `Ev.refuse`, as no slot has been judged; so for RELEASE and HAND.
DESIGN CHOICE (log 40). -/
def Ev.onTake (ev : Ev) (r : Request) : Ev :=
  let l := (slotSetAt r.payload 0).slots
  ev.unless .take r ((lineScope r).or (if l.isEmpty then some .badValue else none)) (fun ev =>
    let t := ev.s.takeRefusal r.port
    (ev.each (grantedSlots l t) (fun ev i => ev.setHolder i (some r.port) .take)).answerSlots .take r (grantedSlots l t)
      (refusedSlots l t))

/-- TAKE (R121). -/
def execTake (r : Request) (s : State) : Host.Outcome State Fault Refusal := .next (s.takeRequest .take r (·.onTake r))

/-! ### RELEASE (R122) -/

/-- The slots the sender holds are given up, but under its own LOCAL selector; the REASON of a REFUSED reply is LOCAL. DEDUCED
(log 31). A line change that this ends sends its final reply ahead of the immediate reply, and the holders change slot by slot. DESIGN
CHOICE (logs 35 and 41). -/
def Ev.onRelease (ev : Ev) (r : Request) : Ev :=
  let l := (slotSetAt r.payload 0).slots
  ev.unless .release r ((lineScope r).or (if l.isEmpty then some .badValue else none)) (fun ev =>
    let mine := l.filter (fun i => (ev.slot i).holder == some r.port)
    let t := fun i => if ev.s.localStation i = some r.port then some Reason.localMode else none
    (ev.each (grantedSlots mine t) (fun ev i => ev.setHolder i none .release)).answerSlots .release r (grantedSlots mine t)
      (refusedSlots mine t))

/-- RELEASE (R122). -/
def execRelease (r : Request) (s : State) : Host.Outcome State Fault Refusal := .next (s.takeRequest .release r (·.onRelease r))

/-! ### HAND (R123) -/

/-- The first test of HAND that refuses a slot (R123). -/
def State.handRefusal (s : State) (p q : Port) (i : SlotId) : Option Reason :=
  let x := s.slots.get i
  if x.kind = .unused then some .badSlot
  else if (s.localStation i).isSome then some .localMode
  else if x.holder ≠ some p then some .authority
  else if x.foreign q then some .area
  else none

/-- A port that a HAND or POST_NOTE may name: not the sender, and enabled (R123, R132). -/
def State.receiver (s : State) (p : Port) (b : Byte) : Option Port :=
  match Port.ofByte b with
  | some q => if q = p ∨ !s.enabled q then none else some q
  | none => none

/-- The holders change slot by slot, in slot order, each with all its consequences before the next, and the immediate reply comes behind
the final replies of what the changes end. DESIGN CHOICE (logs 35 and 41). -/
def Ev.onHand (ev : Ev) (r : Request) : Ev :=
  let l := (slotSetAt r.payload 0).slots
  ev.unless .hand r ((lineScope r).or (if l.isEmpty then some .badValue else none)) (fun ev =>
    match ev.s.receiver r.port (byteAt r.payload 1) with
    | none => ev.refuse .hand r .badValue
    | some q =>
      let t := ev.s.handRefusal r.port q
      (ev.each (grantedSlots l t) (fun ev i => ev.setHolder i (some q) .hand)).answerSlots .hand r (grantedSlots l t)
        (refusedSlots l t))

/-- HAND (R123). -/
def execHand (r : Request) (s : State) : Host.Outcome State Fault Refusal := .next (s.takeRequest .hand r (·.onHand r))

/-! ### POST_NOTE (R132) -/

def Ev.onPostNote (ev : Ev) (r : Request) : Ev :=
  let text := r.payload.drop 2
  ev.unless .postNote r (lineScope r) (fun ev =>
    match ev.s.receiver r.port (byteAt r.payload 0) with
    | none => ev.refuse .postNote r .badValue
    | some q =>
      if text.length > 32 then ev.refuse .postNote r .badValue
      else if (ev.s.ports.get q).note.isSome then ev.refuse .postNote r .boxFull
      else
        let note : Note := ⟨r.port, slotSetAt r.payload 1, text⟩
        let ev := ev.onState (fun s => s.modPort q (fun b => { b with note := some note }))
        (ev.notify none (.notePosted q r.port note.slots text.length)).done .postNote r .empty)

/-- POST_NOTE (R132). -/
def execPostNote (r : Request) (s : State) : Host.Outcome State Fault Refusal := .next (s.takeRequest .postNote r (·.onPostNote r))

/-! ### SET_HOLD (R129) -/

/-- The record a SET_HOLD payload carries: form 0 NONE, form 1 an anchor, a direction (0 UP, 1 DOWN) and a complement flag (R129,
R174; log 9, log 10). -/
def holdOf (p : List Byte) : Option (Option Hold) :=
  if byteAt p 0 = 0 then some none
  else if byteAt p 0 = 1 then
    match slotOfByte (byteAt p 1), flagOfByte (byteAt p 2) with
    | some a, some down => some (some ⟨a, down, byteAt p 3 != 0⟩)
    | _, _ => none
  else none

def Ev.onSetHold (ev : Ev) (r : Request) : Ev :=
  ev.unless .setHold r ((lineScope r).or (if r.port = .plant then none else some .authority)) (fun ev =>
    match holdOf r.payload with
    | none => ev.refuse .setHold r .badValue
    | some h =>
      let ev := ev.onState (fun s => { s with hold := h })
      (ev.done .setHold r (.hold h ev.s.heldSet)).checkLine)

/-- SET_HOLD (R129). -/
def execSetHold (r : Request) (s : State) : Host.Outcome State Fault Refusal := .next (s.takeRequest .setHold r (·.onSetHold r))

/-! ### SET_MASK and CLEAR_MASK (R155) -/

/-- BAD_SLOT when a slot of a list is of kind NONE, then the holder check of the lowest-numbered slot that fails it. -/
def State.slotsRefusal (s : State) (p : Port) (l : List SlotId) : Option Reason :=
  if l.any (fun i => (s.slots.get i).kind == .unused) then some .badSlot else s.holderRefusals p l

/-- Every maskable kind (section 9.1). -/
def maskableKinds : CondSet := CondSet.ofList (Cond.every.filter (fun k => k.cls == .maskable))

/-- The kind set of a payload, when it is not empty and holds only maskable kinds (R155 check 3). -/
def kindsOf (p : List Byte) (k : Nat) : Option CondSet :=
  let n := kindSetAt p k
  if n = 0 ∨ n ≥ 131072 then none
  else
    let s : CondSet := BitVec.ofNat 17 n
    if s &&& ~~~ maskableKinds = 0 then some s else none

/-- The mask of a slot after SET_MASK or CLEAR_MASK; masking WEAR_LIMIT clears the wear-block mark (R82, R154, R155). A SET_MASK that names
WEAR_LIMIT where it is already masked clears it too, which R82 and R154 leave open. DESIGN CHOICE (log 54). -/
def Slot.remask (x : Slot) (add : Bool) (kinds : CondSet) : Slot :=
  let scope := kinds &&& x.kind.maskable
  let x' := { x with mask := if add then x.mask ||| scope else x.mask &&& ~~~ scope }
  if add && scope.mem .wearLimit then { x' with crusher := { x'.crusher with wearBlock := false } } else x'

def Ev.onMask (ev : Ev) (c : ReqCode) (add : Bool) (r : Request) : Ev :=
  let l := (slotSetAt r.payload 0).slots
  ev.unless c r ((lineScope r).or (ev.s.slotsRefusal r.port l)) (fun ev =>
    match kindsOf r.payload 1 with
    | none => ev.refuse c r .badValue
    | some kinds =>
      if l.isEmpty then ev.refuse c r .badValue
      else
        let ev := ev.each l (fun ev i => ev.modSlot i (·.remask add kinds))
        ev.done c r (.masks (l.map (fun i => (i, (ev.slot i).mask)))))

/-- SET_MASK (R155). -/
def execSetMask (r : Request) (s : State) : Host.Outcome State Fault Refusal :=
  .next (s.takeRequest .setMask r (·.onMask .setMask true r))

/-- CLEAR_MASK (R155). -/
def execClearMask (r : Request) (s : State) : Host.Outcome State Fault Refusal :=
  .next (s.takeRequest .clearMask r (·.onMask .clearMask false r))

/-! ### CLEAR_CONDITIONS (R156) -/

/-- The checks of CLEAR_CONDITIONS (R156). -/
def State.clearRefusal (s : State) (p : Port) (l : List SlotId) (line : Bool) : Option Reason :=
  if l.isEmpty && !line then some .badValue
  else (s.slotsRefusal p l).or (if line ∧ p ≠ .plant then some .authority else none)

def Ev.onClearConditions (ev : Ev) (r : Request) : Ev :=
  let l := (slotSetAt r.payload 0).slots
  let line := byteAt r.payload 1 != 0
  ev.unless .clearConditions r ((lineScope r).or (ev.s.clearRefusal r.port l line)) (fun ev =>
    let ev := ev.each l (fun ev i => ev.modSlot i (fun x => { x with conds := 0 }))
    let ev := if line then ev.onState (fun s => { s with lineConds := 0 }) else ev
    ev.done .clearConditions r .empty)

/-- CLEAR_CONDITIONS (R156). -/
def execClearConditions (r : Request) (s : State) : Host.Outcome State Fault Refusal :=
  .next (s.takeRequest .clearConditions r (·.onClearConditions r))

/-! ### SUBSCRIBE (R158) -/

def Ev.onSubscribe (ev : Ev) (r : Request) : Ev :=
  let set : NoticeSet := BitVec.ofNat 16 (wordAt r.payload 0)
  ev.unless .subscribe r ((lineScope r).or (if set &&& ~~~ NoticeSet.every = 0 then none else some .badValue)) (fun ev =>
    (ev.onState (fun s => s.modPort r.port (fun q => { q with subs := set }))).done .subscribe r (.subscription set))

/-- SUBSCRIBE (R158). -/
def execSubscribe (r : Request) (s : State) : Host.Outcome State Fault Refusal :=
  .next (s.takeRequest .subscribe r (·.onSubscribe r))

end Sys2Proof.Machine
end

