-- ==== Sys2Proof/Machine/MotionRequests.lean ====
section
/-! DEFINITION. The requests of the motion controllers: SET_GAP, STEP_GAP, RECALL, SUSPEND, RESUME, GO, FLUSH (chapter 3),
CALIBRATE (chapter 5) and CLEAR_BLOCK (chapter 4). -/

namespace Sys2Proof.Machine

open Sys2Proof

/-- A request on one crusher slot: BAD_SLOT, then the holder check (R1, R119, R120). -/
def Ev.onCrusher (ev : Ev) (c : ReqCode) (r : Request) (effect : Ev → SlotId → Ev) : Ev :=
  match ev.s.slotOf r.slot (fun x => x.kind.isCrusher) with
  | none => ev.refuse c r .badSlot
  | some i => ev.unless c r (ev.s.holderRefusal r.port i) (fun ev => effect ev i)

/-! ### Requests that add moves (R36 to R40) -/

/-- The entry a request builds (R35). -/
def Ev.requestEntry (ev : Ev) (c : ReqCode) (r : Request) (kind : MoveKind) (value : Int) (applied : Option Nat)
    (adjusted : Bool) : Entry :=
  { origin := .port r.port, code := c, tag := r.tag, reqno := ev.reqno r.port, ack := r.ackWanted, kind := kind,
    requested := value, applied := applied, adjusted := adjusted, priority := r.priority, staged := r.staged,
    changeId := none }

/-- How often an entry stands in a queue. -/
def countEntry (q : List Entry) (e : Entry) : Nat := (q.filter (fun x => x == e)).length

/-- Whether the entry has become the move record at the start check of its insertion: it has left the queue, and not because the
slot blocked (R36, R82). -/
def startedEntry (joined after : Crusher) (e : Entry) : Bool :=
  decide (countEntry after.queue e < countEntry joined.queue e)
    && (match after.motion with
      | .blocked _ => false
      | _ => true)

/-- The disposition and reason of the immediate reply, decided after the start check of the insertion (R31, R36). -/
def entryReply (p : CrusherParams) (joined after : Crusher) (e : Entry) : Disposition × Reason :=
  let clamp := if e.adjusted then Reason.envelope else .noReason
  if startedEntry joined after e then (.started, clamp)
  else (.queued, if after.queue.length ≥ p.nearFull then .queueNear else clamp)

/-- An entry joins the queue, its start check runs and the immediate reply is raised ahead of the entry's final reply and behind
that of an entry removed to make room (R36, R38; log 29). Where that removal ends a line change, the change's final reply is ahead of
the immediate reply too. DESIGN CHOICE (log 35). -/
def Ev.insertRequest (ev : Ev) (c : ReqCode) (r : Request) (i : SlotId) (e : Entry) (value : Int) : Ev :=
  let k := ev.replies.length
  let joined := ev.joinQueue i e
  let after := joined.check i
  let d := entryReply (ev.slot i).cp (joined.crusher i) (after.crusher i) e
  after.answerAt k c r d.1 d.2 (.entry value e.adjusted (after.crusher i).queue.length)

/-- QUEUE_FULL, or the insertion; `accept` is what the acceptance itself changes (R38, R57). -/
def Ev.addRequest (ev : Ev) (c : ReqCode) (r : Request) (i : SlotId) (e : Entry) (value : Int) (accept : Crusher → Crusher) :
    Ev :=
  match ev.makeRoom i e with
  | none => ev.refuse c r .queueFull
  | some ev => (ev.modCrusher i accept).insertRequest c r i e value

def Ev.onSetGap (ev : Ev) (r : Request) : Ev :=
  let gap := wordAt r.payload 0
  ev.onCrusher .setGap r (fun ev i =>
    ev.unless .setGap r ((ev.s.moveGate i).or (if gap ≤ 4095 then none else some .badValue)) (fun ev =>
      match ev.enqueueGap i gap with
      | none => ev.refuse .setGap r .envelope
      | some (applied, adjusted) =>
        ev.addRequest .setGap r i (ev.requestEntry .setGap r .set gap (some applied) adjusted) applied id))

/-- SET_GAP (R40). -/
def execSetGap (r : Request) (s : State) : Host.Outcome State Fault Refusal := .next (s.takeRequest .setGap r (·.onSetGap r))

def Ev.onStepGap (ev : Ev) (r : Request) : Ev :=
  let step := signedAt r.payload 0
  ev.onCrusher .stepGap r (fun ev i =>
    ev.unless .stepGap r ((ev.s.moveGate i).or (if -500 ≤ step ∧ step ≤ 500 then none else some .badValue)) (fun ev =>
      ev.addRequest .stepGap r i (ev.requestEntry .stepGap r .step step none false) step id))

/-- STEP_GAP (R40). -/
def execStepGap (r : Request) (s : State) : Host.Outcome State Fault Refusal := .next (s.takeRequest .stepGap r (·.onStepGap r))

def Ev.onRecall (ev : Ev) (r : Request) : Ev :=
  ev.onCrusher .recallGap r (fun ev i =>
    ev.unless .recallGap r (ev.s.moveGate i) (fun ev =>
      match (ev.crusher i).stack.place (ev.crusher i).stack.top with
      | none => ev.refuse .recallGap r .empty
      | some top =>
        match ev.enqueueGap i top.gap with
        | none => ev.refuse .recallGap r .envelope
        | some (applied, adjusted) =>
          ev.addRequest .recallGap r i (ev.requestEntry .recallGap r .set top.gap (some applied) adjusted) applied
            (fun c => { c with stack := c.stack.pop })))

/-- RECALL (R58). The pop stands only when the request is accepted: a refusal puts the entry back (R57). -/
def execRecall (r : Request) (s : State) : Host.Outcome State Fault Refusal :=
  .next (s.takeRequest .recallGap r (·.onRecall r))

/-! ### SUSPEND and RESUME (R49, R50) -/

/-- Whether a slot's motion state is one that SUSPEND acts in (R49). -/
def Motion.suspendable : Motion → Bool
  | .draining | .moving | .settling | .suspended => true
  | _ => false

def Ev.onSuspend (ev : Ev) (r : Request) : Ev :=
  ev.onCrusher .suspend r (fun ev i =>
    ev.unless .suspend r (if (ev.crusher i).motion.suspendable then none else some .notActive) (fun ev =>
      (ev.addCause i .request).done .suspend r .empty))

/-- SUSPEND (R49). -/
def execSuspend (r : Request) (s : State) : Host.Outcome State Fault Refusal := .next (s.takeRequest .suspend r (·.onSuspend r))

/-- The resumer adopts a move whose cause set held HANDOVER (R50). -/
def MoveRec.adopt (m : MoveRec) (r : Request) (reqno : Word16) : MoveRec :=
  if m.causes.handover then
    { m with entry := { m.entry with origin := .port r.port, code := .resume, tag := r.tag, reqno := reqno,
                                     ack := r.ackWanted, changeId := none } }
  else m

/-- The causes RESUME removes (R50). -/
def MoveRec.resume (m : MoveRec) (stopped : Bool) : MoveRec :=
  { m with causes := { m.causes with request := false, handover := false, lineStop := m.causes.lineStop && stopped } }

/-- The causes that remain after RESUME, none where the move has ended or runs again (R50). -/
def Crusher.causesLeft (c : Crusher) : Causes :=
  if c.motion = .suspended then (c.move.map (·.causes)).getD .zero else .zero

def Ev.onResume (ev : Ev) (r : Request) : Ev :=
  ev.onCrusher .resume r (fun ev i =>
    ev.unless .resume r (if (ev.crusher i).motion = .suspended then none else some .notSuspended) (fun ev =>
      let ev := ev.onMove i (fun m => (m.adopt r (ev.reqno r.port)).resume ev.s.lineStop.state)
      let t := ev.testCauses i
      let left := (t.1.crusher i).causesLeft
      let disp : Disposition := if left.isEmpty then .done else .partialDone
      Ev.follow (t.1.answerAt 0 .resume r disp .noReason (.causes left), t.2) i))

/-- RESUME (R50). The reply precedes the final reply of a move that ends at the request. -/
def execResume (r : Request) (s : State) : Host.Outcome State Fault Refusal := .next (s.takeRequest .resume r (·.onResume r))

/-! ### GO (R56) -/

/-- BAD_SLOT for a set that names a slot that is no crusher, then the holder check of its lowest slot that fails it (R56). Which slot gives
the reason where several fail, R56 does not say. DESIGN CHOICE (log 45). -/
def State.goRefusal (s : State) (p : Port) (l : List SlotId) : Option Reason :=
  if l.all (fun i => (s.slots.get i).kind.isCrusher) then s.holderRefusals p l else some .badSlot

/-- Whether a crusher's queue holds a staged entry that `p` picks. -/
def Crusher.hasStaged (c : Crusher) (p : Entry → Bool) : Bool := c.queue.any (fun e => e.staged && p e)

/-- Clear the staged marks of the entries `p` picks. -/
def Crusher.release (c : Crusher) (p : Entry → Bool) : Crusher :=
  { c with queue := c.queue.map (fun e => if p e then { e with staged := false } else e) }

/-- GO on the entries `p` picks in the slots of a list: NOTHING_STAGED where no mark is found, else the marks are cleared, the reply
is DONE, and the start check runs at each slot in which a mark was cleared (R56). -/
def Ev.go (ev : Ev) (r : Request) (l : List SlotId) (p : Entry → Bool) : Ev :=
  match l.filter (fun i => (ev.crusher i).hasStaged p) with
  | [] => ev.refuse .go r .nothingStaged
  | hit =>
    ((ev.each hit (fun ev i => ev.modCrusher i (·.release p))).done .go r .empty).each hit (fun ev i => ev.check i)

def Ev.onGo (ev : Ev) (r : Request) : Ev :=
  ev.unless .go r (lineScope r) (fun ev =>
    if byteAt r.payload 0 = 0 then
      let l := (slotSetAt r.payload 1).slots
      ev.unless .go r (ev.s.goRefusal r.port l) (fun ev =>
        ev.go r l (fun e => e.origin == .port r.port && e.changeId.isNone))
    else if byteAt r.payload 0 = 1 then
      match ev.s.change with
      | none => ev.refuse .go r .badValue
      | some c =>
        if c.id ≠ (byteAt r.payload 1).toNat then ev.refuse .go r .badValue
        else if c.origin ≠ r.port then ev.refuse .go r .authority
        else ev.go r slotIds (fun e => e.changeId == some c.id)
    else ev.refuse .go r .badValue)

/-- GO (R56). -/
def execGo (r : Request) (s : State) : Host.Outcome State Fault Refusal := .next (s.takeRequest .go r (·.onGo r))

/-! ### FLUSH (R55) -/

/-- The pending work of a slot is cleared, by motion state (R55). -/
def Ev.flushSlot (ev : Ev) (i : SlotId) : Ev :=
  let ev := ev.discardAll i .flush
  let c := ev.crusher i
  match c.motion with
  | .draining | .moving | .settling | .suspended => Ev.follow (ev.finishMove i .failed .aborted) i
  | .relief | .recovering =>
    if c.episode.any (fun e => e.returnTo == .suspended) then (ev.finishMove i .failed .aborted).1 else ev
  | _ => ev

/-- The immediate reply is raised ahead of the final replies of what the request ends (log 6). -/
def Ev.onFlush (ev : Ev) (r : Request) : Ev :=
  ev.onCrusher .flush r (fun ev i => (ev.done .flush r .empty).flushSlot i)

/-- FLUSH (R55). -/
def execFlush (r : Request) (s : State) : Host.Outcome State Fault Refusal := .next (s.takeRequest .flush r (·.onFlush r))

/-! ### CALIBRATE (R85) -/

/-- The checks of CALIBRATE from LOCKOUT on (R85). -/
def State.calRefusal (s : State) (i : SlotId) : Option Reason :=
  let x := s.slots.get i
  if x.lockout.state then some .lockout
  else if s.lineStop.state then some .lineStop
  else if s.held i then some .holdSpan
  else
    let busy := if !x.crusher.queue.isEmpty then some Reason.notIdle
      else if x.kind = .cone ∧ x.relief.state then some .relief
      else none
    match x.crusher.motion with
    | .idle | .blocked .wearLimit => busy
    | .blocked _ => some .blocked
    | _ => some .notIdle

/-- The run record of an accepted CALIBRATE (R85). -/
def Ev.calRun (ev : Ev) (r : Request) (fromBlocked : Bool) : CalRun :=
  { port := r.port, tag := r.tag, reqno := ev.reqno r.port, ack := r.ackWanted, stage := .drain, fromBlocked := fromBlocked,
    pStart := none, contact := none, target := none, adjCalJump := false, adjReach := false, reachFail := false,
    stageAt := ev.now, trace := [] }

/-- The calibration run begins (R82, R85). -/
def Ev.startCal (ev : Ev) (r : Request) (i : SlotId) : Ev :=
  let blocked := (ev.crusher i).motion == .blocked .wearLimit
  ev.modCrusher i (fun c =>
    { c with cal := some (ev.calRun r blocked), wearBlock := c.wearBlock || blocked, motion := .calibrating })

def Ev.onCalibrate (ev : Ev) (r : Request) : Ev :=
  ev.onCrusher .calibrate r (fun ev i =>
    ev.unless .calibrate r (ev.s.calRefusal i) (fun ev =>
      ((ev.startCal r i).answer .calibrate r .started .noReason .empty).enterCalDrain i))

/-- CALIBRATE (R85). -/
def execCalibrate (r : Request) (s : State) : Host.Outcome State Fault Refusal :=
  .next (s.takeRequest .calibrate r (·.onCalibrate r))

/-! ### CLEAR_BLOCK (R76) -/

/-- The own checks of CLEAR_BLOCK (R76). -/
def Slot.clearRefusal (x : Slot) : Option Reason :=
  match x.crusher.motion with
  | .blocked .trampRepeat | .blocked .recoveryFail => if x.kind = .cone ∧ x.relief.state then some .relief else none
  | .blocked _ => some .blocked
  | _ => some .notActive

def Ev.onClearBlock (ev : Ev) (r : Request) : Ev :=
  ev.onCrusher .clearBlock r (fun ev i =>
    ev.unless .clearBlock r (ev.slot i).clearRefusal (fun ev =>
      let ev := (ev.setMotion i .idle).lowerLinked i .relief
      ((ev.modCrusher i (fun c => { c with history := [] })).done .clearBlock r .empty).check i))

/-- CLEAR_BLOCK (R76). -/
def execClearBlock (r : Request) (s : State) : Host.Outcome State Fault Refusal :=
  .next (s.takeRequest .clearBlock r (·.onClearBlock r))

end Sys2Proof.Machine
end

