-- ==== Sys2Proof/Machine/FeedRequests.lean ====
section
/-! DEFINITION. The requests of the feed regulators (chapter 6): SET_RATE, START_FEED, STOP_FEED and START_LINE. -/

namespace Sys2Proof.Machine

open Sys2Proof

/-- A request on one feeder slot: BAD_SLOT, then the holder check (R1, R119, R120). -/
def Ev.onFeeder (ev : Ev) (c : ReqCode) (r : Request) (effect : Ev → SlotId → Ev) : Ev :=
  match ev.s.slotOf r.slot (fun x => x.kind == .feeder) with
  | none => ev.refuse c r .badSlot
  | some i => ev.unless c r (ev.s.holderRefusal r.port i) (fun ev => effect ev i)

/-! ### SET_RATE (R109) -/

/-- The values a SET_RATE payload carries, when they lie in their ranges (R109 check 5). -/
def rateOf (p : List Byte) : Option (Nat × RegMode × Nat) :=
  let rb := wordAt p 0
  let ls := wordAt p 3
  match RegMode.ofByte (byteAt p 2) with
  | some m => if rb ≤ 1000 ∧ ls ≤ 1000 then some (rb, m, ls) else none
  | none => none

def Ev.onSetRate (ev : Ev) (r : Request) : Ev :=
  ev.onFeeder .setRate r (fun ev i =>
    ev.unless .setRate r (ev.rateGate i) (fun ev =>
      match rateOf r.payload with
      | none => ev.refuse .setRate r .badValue
      | some (rb, mode, ls) =>
        ev.unless .setRate r (ev.rateEnvelope i rb) (fun ev =>
          let clamps := ev.rateClamps i rb
          let ev := ev.writeRate i rb mode ls
          let body := ReplyBody.feed (ev.feeder i).rb (ev.feeder i).mode (ev.feeder i).ls
          if clamps then ev.answer .setRate r .doneAdjusted .envelope body else ev.done .setRate r body)))

/-- SET_RATE (R109). -/
def execSetRate (r : Request) (s : State) : Host.Outcome State Fault Refusal := .next (s.takeRequest .setRate r (·.onSetRate r))

/-! ### START_FEED and STOP_FEED (R101, R103) -/

/-- Whether a feeder cannot regulate: its parameter block is PARAM_FAULT or its SERVED is none (R107). -/
def Slot.feedBlocked (x : Slot) : Bool := x.feeder.paramFault || x.fp.served.isNone

/-- The checks of START_FEED from LOCKOUT on (R101). -/
def State.startRefusal (s : State) (i : SlotId) : Option Reason :=
  let x := s.slots.get i
  if x.lockout.state then some .lockout
  else if s.lineStop.state then some .lineStop
  else if x.feedBlocked then some .blocked
  else if x.feeder.run = .fault then some .feederFault
  else none

def Ev.onStartFeed (ev : Ev) (r : Request) : Ev :=
  ev.onFeeder .startFeed r (fun ev i =>
    ev.unless .startFeed r (ev.s.startRefusal i) (fun ev =>
      let ev := if (ev.feeder i).run = .stopped then ev.enterRun i .running .startFeed else ev
      ev.done .startFeed r .empty))

/-- START_FEED (R101). -/
def execStartFeed (r : Request) (s : State) : Host.Outcome State Fault Refusal :=
  .next (s.takeRequest .startFeed r (·.onStartFeed r))

def Ev.onStopFeed (ev : Ev) (r : Request) : Ev :=
  ev.onFeeder .stopFeed r (fun ev i =>
    let ev := if (ev.feeder i).run = .stopped then ev else ev.enterRun i .stopped .stopFeed
    ev.done .stopFeed r .empty)

/-- STOP_FEED (R103). -/
def execStopFeed (r : Request) (s : State) : Host.Outcome State Fault Refusal := .next (s.takeRequest .stopFeed r (·.onStopFeed r))

/-! ### START_LINE (R105) -/

/-- Why START_LINE skips a feeder that does not run, when it does (R105). Where several reasons apply, the first in the order of
START_FEED's checks is given, then LOCAL. DESIGN CHOICE (log 37). -/
def State.startSkip (s : State) (i : SlotId) : Option Reason :=
  let x := s.slots.get i
  if x.lockout.state then some .lockout
  else if x.feedBlocked then some .blocked
  else if x.feeder.run = .fault then some .feederFault
  else if (s.localStation i).isSome then some .localMode
  else none

def Ev.onStartLine (ev : Ev) (r : Request) : Ev :=
  let refusal := (lineScope r).or (if r.port ≠ .plant then some .authority else if ev.s.lineStop.state then some .lineStop else none)
  ev.unless .startLine r refusal (fun ev =>
    let l := slotIds.filter (fun i => (ev.slot i).kind == .feeder && (ev.feeder i).run != .running)
    let started := l.filter (fun i => (ev.s.startSkip i).isNone)
    let skipped := l.filterMap (fun i => (ev.s.startSkip i).map (fun k => (i, k)))
    let ev := ev.each started (fun ev i => ev.enterRun i .running .startLine)
    let disp : Disposition := if skipped.isEmpty then .done else .partialDone
    ev.answer .startLine r disp .noReason (.slots (SlotSet.ofList started) skipped))

/-- START_LINE (R105). -/
def execStartLine (r : Request) (s : State) : Host.Outcome State Fault Refusal :=
  .next (s.takeRequest .startLine r (·.onStartLine r))

end Sys2Proof.Machine
end

