-- ==== Sys2Proof/Machine/ChangeRequests.lean ====
section
/-! DEFINITION. The requests of the line change unit (chapter 8): APPLY_RECIPE, ABORT_CHANGE and SAVE_RECIPE. -/

namespace Sys2Proof.Machine

open Sys2Proof

/-! ### APPLY_RECIPE (R141) -/

/-- The time limit an APPLY_RECIPE asks for, in s: 0 for the default, or 60..3600 (R141). -/
def timeLimitOf (n : Nat) : Option Nat :=
  if n = 0 then some Config.changeLimitS else if 60 ≤ n ∧ n ≤ 3600 then some n else none

/-- Recipe number, mode and time limit of an APPLY_RECIPE payload, when they pass check 1 (R141). -/
def applyOf (p : List Byte) : Option (SlotId × ChangeMode × Nat) := do
  let n ← slotOfByte (byteAt p 0)
  let m ← ChangeMode.ofByte (byteAt p 1)
  let t ← timeLimitOf (wordAt p 2)
  return (n, m, t)

/-- The change record of an accepted APPLY_RECIPE, its items judged by the skip rules (R139 to R141). -/
def Ev.newChange (ev : Ev) (r : Request) (n : SlotId) (mode : ChangeMode) (limit : Nat) (recipe : Recipe) : Change :=
  { id := nextChangeId ev.s.lastChangeId, origin := r.port, tag := r.tag, reqno := ev.reqno r.port, ack := r.ackWanted,
    recipe := n, mode := mode, wave := 1, timer := ev.now + limit * 1000,
    items := recipe.entries.map (ev.s.itemOf r.port) }

/-- APPLY_RECIPE: the checks, the new change, and its first two waves (R141 to R145). The notices of one event join wave by wave, also where
they name several slots; R159's two orders leave that open. DESIGN CHOICE (log 55). -/
def Ev.onApplyRecipe (ev : Ev) (r : Request) : Ev :=
  ev.unless .applyRecipe r (lineScope r) (fun ev =>
    match applyOf r.payload with
    | none => ev.refuse .applyRecipe r .badValue
    | some (n, mode, limit) =>
      if ev.s.lineStop.state then ev.refuse .applyRecipe r .lineStop
      else if ev.s.change.isSome then ev.refuse .applyRecipe r .busy
      else
        match ev.s.recipes.get n with
        | none => ev.refuse .applyRecipe r .empty
        | some recipe =>
          let c := ev.newChange r n mode limit recipe
          let ev := ev.onState (fun s => { s with change := some c, lastChangeId := c.id })
          let ev := ev.answer .applyRecipe r .started .noReason (.changeStarted c.id (c.items.map (fun x => (x.slot, x.state))))
          ev.waveOne.waveTwo)

/-- APPLY_RECIPE (R141 to R145). -/
def execApplyRecipe (r : Request) (s : State) : Host.Outcome State Fault Refusal :=
  .next (s.takeRequest .applyRecipe r (·.onApplyRecipe r))

/-! ### ABORT_CHANGE (R148) -/

/-- The checks of ABORT_CHANGE (R148). -/
def State.abortRefusal (s : State) (p : Port) (id : Nat) : Option Reason :=
  if id = 0 then some .badValue
  else
    match s.change with
    | none => some .notActive
    | some c => if c.id ≠ id then some .notActive else if c.origin ≠ p ∧ p ≠ .plant then some .authority else none

/-- The outcome an abort of the change that exists gives it (R147, R148). -/
def State.abortOutcome (s : State) : Disposition × Reason :=
  match s.change with
  | none => (.done, .noReason)
  | some c => outcomeOf (c.closeItems .aborted).items

def Ev.onAbortChange (ev : Ev) (r : Request) : Ev :=
  ev.unless .abortChange r ((lineScope r).or (ev.s.abortRefusal r.port (byteAt r.payload 0).toNat)) (fun ev =>
    let o := ev.s.abortOutcome
    (ev.endChange .aborted).done .abortChange r (.changeOutcome o.1 o.2))

/-- ABORT_CHANGE (R148). -/
def execAbortChange (r : Request) (s : State) : Host.Outcome State Fault Refusal :=
  .next (s.takeRequest .abortChange r (·.onAbortChange r))

/-! ### SAVE_RECIPE (R136, R137) -/

/-- The number of entries of a recipe record (R137). -/
def recipeEntries : Option Recipe → Nat
  | some x => x.entries.length
  | none => 0

/-- The pending final reply of a request that waits for a store write (R181). -/
def Ev.pendingReply (ev : Ev) (c : ReqCode) (r : Request) (record : RecId) (disp : Disposition) : PendingReply :=
  ⟨record, r.port, c, r.tag, ev.reqno r.port, r.slot, disp, .noReason⟩

def Ev.onSaveRecipe (ev : Ev) (r : Request) : Ev :=
  ev.unless .saveRecipe r (lineScope r) (fun ev =>
    match ev.s.recipeOf r.payload with
    | none => ev.refuse .saveRecipe r .badValue
    | some (n, recipe) =>
      ev.unless .saveRecipe r (if ev.s.isWriting (.recipe n) then some .storeBusy else none) (fun ev =>
        let ev := ev.onState (fun s => { s with recipes := s.recipes.set n recipe })
        let ev := (ev.markDirty (.recipe n)).awaitStore (ev.pendingReply .saveRecipe r (.recipe n) .done) r.ackWanted
        ev.answer .saveRecipe r .started .noReason (.recipeSaved n (recipeEntries recipe))))

/-- SAVE_RECIPE (R136, R137). -/
def execSaveRecipe (r : Request) (s : State) : Host.Outcome State Fault Refusal :=
  .next (s.takeRequest .saveRecipe r (·.onSaveRecipe r))

end Sys2Proof.Machine
end

