-- ==== Sys2Proof/Machine/ParamRequests.lean ====
section
/-! DEFINITION. The requests on commissioning records: WRITE_PARAMS (R10 to R16, R99) and LOCK_PARAMS (R131). -/

namespace Sys2Proof.Machine

open Sys2Proof

/-! ### WRITE_PARAMS (R10, R13) -/

/-- The checks of a write of the bin thresholds (R10, R11). -/
def State.thresholdRefusal (s : State) (p : Port) (t : BinThresholds) : Option Reason :=
  if p ≠ .plant then some .authority
  else if !t.inRange then some .badValue
  else if s.isWriting .line then some .storeBusy
  else none

/-- WRITE_PARAMS on slot 0xFF (R10, R13, R99). -/
def Ev.writeLine (ev : Ev) (r : Request) : Ev :=
  let t := thresholdsOf r.payload
  ev.unless .writeParams r (ev.s.thresholdRefusal r.port t) (fun ev =>
    let ev := ev.answer .writeParams r .started .noReason .empty
    (ev.awaitStore (ev.pendingReply .writeParams r .line .done) r.ackWanted).writeThresholds t)

/-- The disposition of the final reply of a write of a slot (R13). -/
def Slot.writeDisposition (x : Slot) (rec : Record) : Disposition := if x.writeClamps rec then .doneAdjusted else .done

/-- WRITE_PARAMS on a slot (R10, R13). -/
def Ev.writeSlot (ev : Ev) (r : Request) (i : SlotId) : Ev :=
  match ev.s.writeRefusal i r.port r.payload, recordOf r.payload with
  | some reason, _ => ev.refuse .writeParams r reason
  | none, none => ev.refuse .writeParams r .badValue
  | none, some rec =>
    let disp := (ev.slot i).writeDisposition rec
    let ev := ev.answer .writeParams r .started .noReason .empty
    (ev.awaitStore (ev.pendingReply .writeParams r (.param i) disp) r.ackWanted).writeRecord i rec

def Ev.onWriteParams (ev : Ev) (r : Request) : Ev :=
  if r.slot = lineSlot then ev.writeLine r
  else
    match slotOfByte r.slot with
    | none => ev.refuse .writeParams r .badSlot
    | some i => ev.writeSlot r i

/-- WRITE_PARAMS (R10). -/
def execWriteParams (r : Request) (s : State) : Host.Outcome State Fault Refusal :=
  .next (s.takeRequest .writeParams r (·.onWriteParams r))

/-! ### LOCK_PARAMS (R131) -/

/-- The sender check of LOCK_PARAMS (R131 check 2). A mode code that is none of the four is no FROZEN. -/
def State.lockSender (s : State) (i : SlotId) (p : Port) (target : Option LockMode) : Option Reason :=
  if p = .plant then none
  else
    match s.holderRefusal p i with
    | some reason => some reason
    | none => if target = some .frozen then none else some .authority

/-- The rows of R131's table: whether a change of mode is one, and whether it requires the lockout input. -/
def LockMode.row : LockMode → LockMode → Option Bool
  | .openMode, .commissioned => some false
  | .commissioned, .openMode => some true
  | .openMode, .frozen | .commissioned, .frozen => some false
  | .openMode, .fixed | .commissioned, .fixed => some true
  | _, _ => none

/-- Checks 3 and 4 of LOCK_PARAMS (R131). -/
def Slot.lockRow (x : Slot) (target : LockMode) : Option Reason :=
  match x.lock.row target with
  | none => some .locked
  | some needs => if needs && !x.lockout.state then some .locked else none

/-- The slot in its new lock mode; a change to FROZEN records the mode it leaves (R131). -/
def Slot.relock (x : Slot) (target : LockMode) : Slot :=
  { x with lock := target, preFreeze := if target = .frozen then x.lock else x.preFreeze }

def Ev.lockSlot (ev : Ev) (r : Request) (i : SlotId) (target : LockMode) : Ev :=
  let busy := if ev.s.isWriting (.param i) then some Reason.storeBusy else none
  ev.unless .lockParams r (((ev.slot i).lockRow target).or busy) (fun ev =>
    let ev := (ev.modSlot i (·.relock target)).markDirty (.param i)
    let ev := ev.awaitStore (ev.pendingReply .lockParams r (.param i) .done) r.ackWanted
    ev.answer .lockParams r .started .noReason .empty)

def Ev.onLockParams (ev : Ev) (r : Request) : Ev :=
  match ev.s.slotOf r.slot (fun x => x.kind != .unused) with
  | none => ev.refuse .lockParams r .badSlot
  | some i =>
    let target := LockMode.ofByte (byteAt r.payload 0)
    ev.unless .lockParams r (ev.s.lockSender i r.port target) (fun ev =>
      match target with
      | none => ev.refuse .lockParams r .locked
      | some t => ev.lockSlot r i t)

/-- LOCK_PARAMS (R131). -/
def execLockParams (r : Request) (s : State) : Host.Outcome State Fault Refusal :=
  .next (s.takeRequest .lockParams r (·.onLockParams r))

end Sys2Proof.Machine
end

