-- ==== Sys2Proof/Machine/Power.lean ====
section
/-! DEFINITION. Power-on start-up (R183), its end, the loss of power (R182) and LINE_RESET (R184, R61, R94, R179). -/

namespace Sys2Proof.Machine

open Sys2Proof

/-! ### The input scan (R162, R164, R165) -/

/-- An analog input after the one sample of the scan (R162); an input not in use is not sampled. -/
def scanAnalog (inUse : Bool) (fs : Nat) (raw : BitVec 12) : Analog :=
  if inUse then (Analog.unread.sample 0 fs raw.toNat).1 else .unread

/-- A position channel after the scan: up to three samples, stopping at the first good one (R164). -/
def scanPosition (inverted : Bool) (x : SlotScan) : PosChannel :=
  let c1 := (PosChannel.unread.sample 0 inverted x.position1).1
  if c1.valid then c1
  else
    let c2 := (c1.sample 0 inverted x.position2).1
    if c2.valid then c2 else (c2.sample 0 inverted x.position3).1

/-- A discrete input after the scan: in use, it takes its raw level at once (R165). -/
def scanDiscrete (inUse asserted : Bool) : Discrete := ⟨asserted, inUse && asserted, none⟩

/-! ### A slot settled from its own records (R183 steps 3, 5, 6 and 7) -/

/-- Whether a slot enters its parameter fault (R9). -/
def Nonvolatile.slotFault (v : Nonvolatile) (i : SlotId) : Bool :=
  !(v.good (.param i) && v.good (.cal i) && v.good (.wear i))

/-- The kind a slot takes: NONE where its parameter record is bad (R2, R183). -/
def Nonvolatile.kindOf (v : Nonvolatile) (i : SlotId) : Kind :=
  if v.good (.param i) then (v.params.get i).contents.kind else .unused

/-- A link to a slot that takes kind NONE becomes none (R6, R183; log 25). -/
def Nonvolatile.linkOf (v : Nonvolatile) (l : Option SlotId) : Option SlotId :=
  l.filter (fun j => v.kindOf j != .unused)

/-- The parameter record a slot works with: links mended, FROZEN reverted (R130, R183), blank where the record is bad. -/
def Nonvolatile.paramOf (v : Nonvolatile) (i : SlotId) : ParamImage :=
  if v.good (.param i) then
    let p := (v.params.get i).contents
    { p with cp := { p.cp with linkedFeeder := v.linkOf p.cp.linkedFeeder }
             fp := { p.fp with served := v.linkOf p.fp.served }
             lock := if p.lock = .frozen then p.preFreeze else p.lock }
  else .blank

/-- Whether start-up marks the slot's parameter record dirty: a link or the frozen mark has changed (R183 steps 3 and 5). -/
def Nonvolatile.paramDirty (v : Nonvolatile) (i : SlotId) : Bool :=
  v.good (.param i) && v.paramOf i != (v.params.get i).contents

/-- A crusher's working state after power-on (R7, R9): T_f within the envelope, W within 0..WEAR_MAX and W_at_move within 0..W (R79,
R183; the last two, log 28). -/
def Nonvolatile.crusherOf (v : Nonvolatile) (i : SlotId) : Crusher :=
  let p := (v.paramOf i).cp
  let c := Crusher.fresh p
  let cal := v.cals.get i
  let wear := v.wears.get i
  let c := if v.good (.cal i) then { c with z := cal.contents.z, lastCal := cal.contents.lastCal } else c
  let c :=
    if v.good (.wear i) then
      let w := min wear.contents.w p.wearMax
      { c with tf := clampNat p.envMin p.envMax wear.contents.tf, w := w, acc := wear.contents.accHigh * 256,
               tonnes := wear.contents.tonnes, wAtMove := min wear.contents.wAtMove w }
    else c
  if v.slotFault i then { c with motion := .blocked .paramFault } else c

/-- A feeder's working state after power-on (R8, R9). -/
def Nonvolatile.feederOf (v : Nonvolatile) (i : SlotId) : Feeder :=
  let p := (v.paramOf i).fp
  let f := Feeder.fresh p
  let wear := v.wears.get i
  let f :=
    if v.good (.wear i) then
      { f with rb := clampNat p.rMin p.rMax wear.contents.rb, mode := wear.contents.mode, ls := wear.contents.ls }
    else f
  { f with paramFault := v.slotFault i }

/-- Whether start-up marks the slot's wear record dirty: T_f or Rb was clamped (R183 step 7), or W or W_at_move (log 28). -/
def Nonvolatile.wearDirty (v : Nonvolatile) (i : SlotId) : Bool :=
  let w := (v.wears.get i)
  v.good (.wear i) &&
    match v.kindOf i with
    | .jaw | .cone =>
      let c := v.crusherOf i
      c.tf != w.contents.tf || c.w != w.contents.w || c.wAtMove != w.contents.wAtMove
    | .feeder => (v.feederOf i).rb != w.contents.rb
    | .unused => false

/-- A slot after power-on start-up, with its channel group as the scan found it; a slot of kind NONE with a bad record stands in its
parameter fault as any other (R9, R183; log 27). -/
def Nonvolatile.slotOf (v : Nonvolatile) (scan : InputScan) (i : SlotId) : Slot :=
  let p := v.paramOf i
  let k := p.kind
  let x := scan.slots.get i
  { Slot.blank with
    kind := k
    cp := p.cp
    fp := p.fp
    lock := p.lock
    preFreeze := p.preFreeze
    unusedFault := k == .unused && v.slotFault i
    conds := if v.slotFault i then CondSet.ofList [.paramFault] else 0
    mask := k.defaultMask
    crusher := if k.isCrusher then v.crusherOf i else Crusher.fresh p.cp
    feeder := if k = .feeder then v.feederOf i else Feeder.fresh p.fp
    lockout := scanDiscrete true ((DiscreteInput.lockout i).asserted x.lockout)
    relief := scanDiscrete (k == .cone) ((DiscreteInput.relief i).asserted x.relief)
    running := scanDiscrete (k == .feeder) ((DiscreteInput.running i).asserted x.running)
    level := scanAnalog (k.isCrusher && p.cp.levelIn) (AnalogInput.level i).fullScale x.level
    power := scanAnalog (k.isCrusher && p.cp.powerIn) (AnalogInput.power i).fullScale x.power
    position := if k.isCrusher then scanPosition p.cp.inverted x else .unread }

/-- The bin monitor after the scan: the state is fixed by plain comparison, UNKNOWN where the level is invalid (R96). -/
def Nonvolatile.binOf (v : Nonvolatile) (raw : BitVec 12) : Bin :=
  let t := if v.good .line then v.line.contents else .default
  let a := scanAnalog true AnalogInput.bin.fullScale raw
  ⟨if a.valid then t.plain a.last else .unknown, t, a.last, a⟩

/-- The records start-up marks dirty (R183; no bad record is). -/
def Nonvolatile.startDirty (v : Nonvolatile) : BitVec 33 :=
  slotIds.foldl (fun d i =>
    let d := if v.paramDirty i then d ||| BitVec.twoPow 33 (RecId.param i).number else d
    if v.wearDirty i then d ||| BitVec.twoPow 33 (RecId.wear i).number else d) 0

/-- The part in start-up on a store, after its input scan (R183). -/
def Nonvolatile.powerOn (v : Nonvolatile) (scan : InputScan) : State :=
  { State.reset with
    phase := .startUp
    slots := PerSlot.of (v.slotOf scan)
    bin := v.binOf scan.bin
    lineStop := scanDiscrete true (DiscreteInput.lineStop.asserted scan.lineStop)
    selectorA := scanDiscrete true (DiscreteInput.selectorA.asserted scan.selectorA)
    selectorB := scanDiscrete (!scan.portBStrap) (DiscreteInput.selectorB.asserted scan.selectorB)
    rateStrap := scan.rateStrap
    portBStrap := scan.portBStrap
    store := v
    dirty := v.startDirty
    recipes := PerSlot.of (fun n => if v.good (.recipe n) then (v.recipes.get n).contents else none) }

/-- How many free values the store drew so far, one more where the loss of power tore a write (log 11). -/
def State.drawsAfterLoss (s : State) : Nat := if s.writing.isSome then s.freeDraws + 1 else s.freeDraws

/-- POWER_ON (R183). A part that is powered loses its power first (log 13). -/
def execPowerOn (scan : InputScan) (s : State) : Host.Outcome State Fault Refusal :=
  .next { s.tornStore.powerOn scan with freeDraws := s.drawsAfterLoss, pending := s.pending }

/-- POWER_LOSS (R182): the store is all that is kept, with the write in progress torn (log 11). -/
def execPowerLoss (s : State) : Host.Outcome State Fault Refusal :=
  if s.phase = .off then .next s
  else .next { State.reset with phase := .off, store := s.tornStore, freeDraws := s.drawsAfterLoss, pending := s.pending }

/-! ### The end of start-up (R183) -/

/-- Whether a locked-out crusher is linked to a slot (R106). -/
def State.lockedOut (s : State) (f : SlotId) : Bool :=
  slotIds.any (fun i =>
    let x := s.slots.get i
    x.kind.isCrusher && x.lockout.state && x.cp.linkedFeeder == some f)

/-- What the scanned states set when start-up ends: LOCKOUT on the feeders linked to locked-out crushers, a relief start for each
asserted relief switch, BIN_INVALID for an invalid bin level (R62, R96, R183). One step is taken for all slots, in slot order, before the
next; R159's two orders leave it open whether the notices join so or slot by slot. DESIGN CHOICE (log 39). -/
def Ev.actOnScan (ev : Ev) : Ev :=
  let ev := ev.each slotIds (fun ev f => if ev.s.lockedOut f then ev.raise f .lockout else ev)
  let ev := ev.each slotIds (fun ev i => if (ev.slot i).kind = .cone ∧ (ev.slot i).relief.state then ev.reliefStart i else ev)
  if ev.s.bin.state = .unknown then ev.recordBinInvalid else ev

/-- START_UP_END (R183). -/
def execStartUpEnd (s : State) : Host.Outcome State Fault Refusal :=
  if s.phase = .startUp then
    .next (((Ev.of s).onState (fun s => State.resetHolders { s with phase := .running })).actOnScan).commit
  else .next s

/-! ### LINE_RESET (R184) -/

/-- The inhibit reason that the work LINE_RESET ends holds on the linked feeder (R61, R94). -/
def Slot.resetLowers (x : Slot) : Option Inhibit :=
  match x.crusher.motion with
  | .draining | .moving | .settling | .suspended => if x.kind = .jaw then some .drain else none
  | .calibrating => some .calibrate
  | _ => none

/-- A crusher's motion work at LINE_RESET, but for its drive and the reasons it held (R61, R75, R94). -/
def Crusher.reset (c : Crusher) : Crusher :=
  let c := { c with queue := [], move := none, wearBlock := false,
                    episode := c.episode.map (fun (e : Episode) => { e with returnTo := .idle }) }
  match c.motion with
  | .draining | .moving | .settling | .suspended | .calibrating =>
    { c.stopMoveTimers with motion := .idle, cal := none }
  | _ => c

/-- A crusher slot at LINE_RESET (R61, R75, R94). -/
def Ev.resetCrusher (ev : Ev) (i : SlotId) : Ev :=
  let x := ev.slot i
  let ev := if x.crusher.motion = .recovering then ev else ev.holdDrive i
  let ev :=
    match x.resetLowers with
    | some r => ev.lowerLinked i r
    | none => ev
  ev.modCrusher i (·.reset)

/-- A slot at LINE_RESET: its work, its condition set and its mask (R8, R61, R151, R154). -/
def Ev.resetSlot (ev : Ev) (i : SlotId) : Ev :=
  let ev :=
    match (ev.slot i).kind with
    | .jaw | .cone => ev.resetCrusher i
    | .feeder => ev.modFeeder i (·.enter .stopped none none)
    | .unused => ev
  ev.modSlot i (fun x => { x with conds := 0, mask := x.kind.defaultMask })

/-- A port at LINE_RESET; its assembler and a frame being transmitted are kept (R132, R179). -/
def PortState.reset (q : PortState) : PortState :=
  { q with tx := [], notices := [], overrun := false, subs := NoticeSet.every, reqno := 0, noticeTurn := false, note := none }

/-- The line at LINE_RESET (R139, R128, R151, R184). -/
def State.resetLine (s : State) : State :=
  { s with change := none, hold := none, lineConds := 0, replies := [], ports := PerPort.of (fun p => (s.ports.get p).reset) }

/-- The work LINE_RESET ends raises no reply and no notice (R184). -/
def Ev.silence (ev : Ev) : Ev := { ev with notices := [], replies := [] }

/-- The effect of an accepted LINE_RESET, up to its reply (R184). -/
def Ev.resetAll (ev : Ev) : Ev :=
  ((ev.each slotIds (fun ev i => ev.resetSlot i)).onState (fun s => s.resetHolders.resetLine)).silence

/-- The reply carries the number that the request took before the reset (R179). -/
def Ev.onLineReset (ev : Ev) (r : Request) : Ev :=
  ev.unless .lineReset r ((lineScope r).or (if r.port = .plant then none else some .authority)) (fun ev =>
    ev.resetAll.immediateAt 0 r.port
      ⟨ReqCode.lineReset.code, .done, .noReason, r.tag, ev.reqno r.port, r.slot, .empty⟩)

/-- LINE_RESET (R184). -/
def execLineReset (r : Request) (s : State) : Host.Outcome State Fault Refusal :=
  .next (s.takeRequest .lineReset r (·.onLineReset r))

end Sys2Proof.Machine
end

