-- ==== Sys2Proof/Machine/Link.lean ====
section
/-! DEFINITION. The setting link (chapter 11): the frames, the receive assembler, the decoder's dispatch over the request codes,
the transmitter, and the bytes of the frames the part sends. -/

namespace Sys2Proof.Machine

open Sys2Proof

/-! ### Frames (section 11.2) -/

/-- The SYNC character. -/
def syncByte : Byte := 0xC3

/-- The high and the low byte of a two-byte field. -/
def highByte (w : Word16) : Byte := w.extractLsb' 8 8
def lowByte (w : Word16) : Byte := w.extractLsb' 0 8

/-- A two-byte field from its bytes, high byte first. -/
def word16 (hi lo : Byte) : Word16 := hi ++ lo

/-- A frame from the bytes between LEN and CHECK: SYNC, LEN, those bytes, CHECK. -/
def frameBytes (body : List Byte) : List Byte :=
  let counted := BitVec.ofNat 8 body.length :: body
  syncByte :: counted ++ [highByte (crc counted), lowByte (crc counted)]

/-- The bytes of a request frame (section 11.2). -/
def requestBytes (kind : Byte) (r : Request) : List Byte :=
  frameBytes ([kind, r.flags, highByte r.tag, lowByte r.tag, r.slot] ++ r.payload)

/-- The payload of a reply. The manual gives the fields of most payloads but not how they are composed (log 23). -/
def ReplyBody.bytes : ReplyBody → List Byte
  | .empty => []
  | .echoed l => l
  | .subscription s => [s.extractLsb' 8 8, s.extractLsb' 0 8]
  | b => Config.replyLayout b

/-- The SLOT byte of a notice. -/
def Notice.slotByte (n : Notice) : Byte := (n.slot.map (fun i => BitVec.ofNat 8 i.val)).getD lineSlot

/-- A line-clock time in four bytes (section 11.2). -/
def timeBytes (t : Nat) : List Byte :=
  let w := BitVec.ofNat 32 t
  [w.extractLsb' 24 8, w.extractLsb' 16 8, w.extractLsb' 8 8, w.extractLsb' 0 8]

/-- The bytes of a frame the part sends (section 11.2; R160, R172, R175). -/
def OutFrame.bytes : OutFrame → List Byte
  | .reply r =>
    frameBytes ([r.kind, r.disp.code, r.reason.code, highByte r.tag, lowByte r.tag, highByte r.reqno, lowByte r.reqno, r.slot]
      ++ r.body.bytes)
  | .notice n overrun =>
    frameBytes ([0x80, BitVec.ofNat 8 n.body.kind.code, if overrun then 1 else 0] ++ timeBytes n.time ++ [n.slotByte]
      ++ Config.noticeLayout n.body)

/-! ### The receive assembler (R171) -/

/-- A character taken in HUNT. -/
def Assembler.huntFor (now : Nat) (c : RxChar) : Assembler :=
  if !c.framingError && c.data == syncByte then .collect [] now else .hunt

/-- A character taken in COLLECT, within the gap. The second part is a frame now complete: its bytes from LEN on. -/
def Assembler.collectOn (got : List Byte) (now : Nat) (c : RxChar) : Assembler × Option (List Byte) :=
  if c.framingError then (.hunt, none)
  else
    match got with
    | [] => (if 5 ≤ c.data.toNat ∧ c.data.toNat ≤ 246 then .collect [c.data] now else .hunt, none)
    | len :: _ =>
      if got.length + 1 = len.toNat + 3 then (.hunt, some (got ++ [c.data])) else (.collect (got ++ [c.data]) now, none)

/-- A character received: in COLLECT, one that comes more than 20 ms after the last discards the frame and is taken in HUNT. -/
def Assembler.receive (a : Assembler) (now : Nat) (c : RxChar) : Assembler × Option (List Byte) :=
  match a with
  | .hunt => (.huntFor now c, none)
  | .collect got lastAt => if now > lastAt + Config.characterGapMs then (.huntFor now c, none) else Assembler.collectOn got now c

/-- Whether a completed frame passes its check (R172). -/
def checkPasses (f : List Byte) : Bool :=
  let n := f.length - 2
  crc (f.take n) == word16 (byteAt f n) (byteAt f (n + 1))

/-- The request a completed frame carries, less its KIND (section 11.2). -/
def requestOf (p : Port) (f : List Byte) : Request :=
  { port := p, flags := byteAt f 2, tag := word16 (byteAt f 3) (byteAt f 4), slot := byteAt f 5,
    payload := (f.drop 6).take (f.length - 8) }

/-! ### The decoder (R173) -/

/-- Hand a request to the block that owns it (R173 step 4). -/
def Ev.handle (c : ReqCode) (r : Request) (ev : Ev) : Ev :=
  match c with
  | .echo => ev.onEcho r
  | .readSlot => ev.onReadSlot r
  | .readQueue => ev.onReadQueue r
  | .readLine => ev.onReadLine r
  | .readReliefs => ev.onReadReliefs r
  | .readRecipe => ev.onReadRecipe r
  | .readNote => ev.onReadNote r
  | .take => ev.onTake r
  | .release => ev.onRelease r
  | .hand => ev.onHand r
  | .postNote => ev.onPostNote r
  | .setHold => ev.onSetHold r
  | .setGap => ev.onSetGap r
  | .stepGap => ev.onStepGap r
  | .recallGap => ev.onRecall r
  | .suspend => ev.onSuspend r
  | .resume => ev.onResume r
  | .go => ev.onGo r
  | .flush => ev.onFlush r
  | .calibrate => ev.onCalibrate r
  | .clearBlock => ev.onClearBlock r
  | .setRate => ev.onSetRate r
  | .startFeed => ev.onStartFeed r
  | .stopFeed => ev.onStopFeed r
  | .startLine => ev.onStartLine r
  | .applyRecipe => ev.onApplyRecipe r
  | .abortChange => ev.onAbortChange r
  | .saveRecipe => ev.onSaveRecipe r
  | .writeParams => ev.onWriteParams r
  | .lockParams => ev.onLockParams r
  | .setMask => ev.onMask .setMask true r
  | .clearMask => ev.onMask .clearMask false r
  | .clearConditions => ev.onClearConditions r
  | .subscribe => ev.onSubscribe r
  | .lineReset => ev.onLineReset r

/-- The decoder takes a frame by its KIND (R173). -/
def State.takeFrame (s : State) (kind : Byte) (r : Request) : State :=
  match ReqCode.ofByte kind with
  | some c => s.takeRequest c r (Ev.handle c r)
  | none => s.takeBadKind kind r

/-- BAD_KIND_REQUEST (R173 step 2). A KIND that is a request code is no bad kind and is taken as that request. -/
def execBadKindRequest (kind : Byte) (r : Request) (s : State) : Host.Outcome State Fault Refusal := .next (s.takeFrame kind r)

/-! ### Characters (R171) -/

/-- Whether a port's receiver and transmitter work: start-up has ended and the port is enabled (R170, R171). -/
def State.linkUp (s : State) (p : Port) : Bool := s.phase == .running && s.enabled p

def State.setAsm (s : State) (p : Port) (a : Assembler) : State := s.modPort p (fun q => { q with asm := a })

/-- A character at a port's assembler; a frame that it completes and whose check passes is taken at the same event (R171; log 4). -/
def State.receive (s : State) (p : Port) (c : RxChar) : State :=
  let t := (s.ports.get p).asm.receive s.clock c
  let s := s.setAsm p t.1
  match t.2 with
  | none => s
  | some f => if checkPasses f then s.takeFrame (byteAt f 1) (requestOf p f) else s

/-- CHARACTER_RECEIVED (R171). -/
def execCharacterReceived (p : Port) (c : RxChar) (s : State) : Host.Outcome State Fault Refusal :=
  .next (if s.linkUp p then s.receive p c else s)

/-- INTER_CHARACTER_GAP (R171): more than 20 ms have passed since the last character of the frame being collected (log 3). -/
def execInterCharacterGap (p : Port) (s : State) : Host.Outcome State Fault Refusal :=
  match (s.ports.get p).asm with
  | .hunt => .next s
  | .collect _ lastAt =>
    .next (if s.linkUp p then (s.reach (lastAt + Config.characterGapMs + 1)).setAsm p .hunt else s)

/-! ### The transmitter (R176) -/

/-- The head of the transmit queue leaves for the transmitter. -/
def PortState.sendReply (q : PortState) : PortState :=
  match q.tx with
  | [] => q
  | r :: rest => { q with tx := rest, sending := some (.reply r), noticeTurn := false }

/-- The head of the notice queue leaves for the transmitter, with the overrun mark as it stands, which is then cleared (R160). -/
def PortState.sendNotice (q : PortState) : PortState :=
  match q.notices with
  | [] => q
  | n :: rest => { q with notices := rest, sending := some (.notice n q.overrun), overrun := false, noticeTurn := false }

/-- A free transmitter takes the next frame: the head of the transmit queue, else the head of the notice queue; a notice that
joined first while the transmitter stood free goes first (R176; log 15). -/
def PortState.takeNext (q : PortState) : PortState :=
  if q.sending.isSome then q
  else if q.tx.isEmpty || (q.noticeTurn && !q.notices.isEmpty) then q.sendNotice
  else q.sendReply

/-- TRANSMIT_TAKE (R176). -/
def execTransmitTake (p : Port) (s : State) : Host.Outcome State Fault Refusal :=
  .next (if s.linkUp p then s.modPort p (·.takeNext) else s)

/-- FRAME_TRANSMITTED (R176): the transmitter is free. -/
def execFrameTransmitted (p : Port) (s : State) : Host.Outcome State Fault Refusal :=
  .next (if s.linkUp p then s.modPort p (fun q => { q with sending := none }) else s)

end Sys2Proof.Machine
end

