-- ==== Sys2Proof/Machine/Dispatch.lean ====
section
/-! DEFINITION. The dispatch: one arm per command, each one direct call of the command's meaning. -/

namespace Sys2Proof.Machine

open Sys2Proof

def exec (i : Instr) (s : State) : Host.Outcome State Fault Refusal :=
  match i with
  | .powerOn scan => Sys2Proof.Machine.execPowerOn scan s
  | .startUpEnd => Sys2Proof.Machine.execStartUpEnd s
  | .echo r => Sys2Proof.Machine.execEcho r s
  | .readSlot r => Sys2Proof.Machine.execReadSlot r s
  | .readQueue r => Sys2Proof.Machine.execReadQueue r s
  | .readLine r => Sys2Proof.Machine.execReadLine r s
  | .readReliefs r => Sys2Proof.Machine.execReadReliefs r s
  | .readRecipe r => Sys2Proof.Machine.execReadRecipe r s
  | .readNote r => Sys2Proof.Machine.execReadNote r s
  | .take r => Sys2Proof.Machine.execTake r s
  | .release r => Sys2Proof.Machine.execRelease r s
  | .hand r => Sys2Proof.Machine.execHand r s
  | .postNote r => Sys2Proof.Machine.execPostNote r s
  | .setHold r => Sys2Proof.Machine.execSetHold r s
  | .setGap r => Sys2Proof.Machine.execSetGap r s
  | .stepGap r => Sys2Proof.Machine.execStepGap r s
  | .recallGap r => Sys2Proof.Machine.execRecall r s
  | .suspend r => Sys2Proof.Machine.execSuspend r s
  | .resume r => Sys2Proof.Machine.execResume r s
  | .go r => Sys2Proof.Machine.execGo r s
  | .flush r => Sys2Proof.Machine.execFlush r s
  | .calibrate r => Sys2Proof.Machine.execCalibrate r s
  | .clearBlock r => Sys2Proof.Machine.execClearBlock r s
  | .setRate r => Sys2Proof.Machine.execSetRate r s
  | .startFeed r => Sys2Proof.Machine.execStartFeed r s
  | .stopFeed r => Sys2Proof.Machine.execStopFeed r s
  | .startLine r => Sys2Proof.Machine.execStartLine r s
  | .applyRecipe r => Sys2Proof.Machine.execApplyRecipe r s
  | .abortChange r => Sys2Proof.Machine.execAbortChange r s
  | .saveRecipe r => Sys2Proof.Machine.execSaveRecipe r s
  | .writeParams r => Sys2Proof.Machine.execWriteParams r s
  | .lockParams r => Sys2Proof.Machine.execLockParams r s
  | .setMask r => Sys2Proof.Machine.execSetMask r s
  | .clearMask r => Sys2Proof.Machine.execClearMask r s
  | .clearConditions r => Sys2Proof.Machine.execClearConditions r s
  | .subscribe r => Sys2Proof.Machine.execSubscribe r s
  | .lineReset r => Sys2Proof.Machine.execLineReset r s
  | .badKindRequest kind r => Sys2Proof.Machine.execBadKindRequest kind r s
  | .characterReceived port c => Sys2Proof.Machine.execCharacterReceived port c s
  | .interCharacterGap port => Sys2Proof.Machine.execInterCharacterGap port s
  | .transmitTake port => Sys2Proof.Machine.execTransmitTake port s
  | .frameTransmitted port => Sys2Proof.Machine.execFrameTransmitted port s
  | .analogSample input raw => Sys2Proof.Machine.execAnalogSample input raw s
  | .positionSample slot answer => Sys2Proof.Machine.execPositionSample slot answer s
  | .tonnageEdge slot => Sys2Proof.Machine.execTonnageEdge slot s
  | .discreteInputChange input closed => Sys2Proof.Machine.execDiscreteInputChange input closed s
  | .debounceExpiry input => Sys2Proof.Machine.execDebounceExpiry input s
  | .travelExpiry slot => Sys2Proof.Machine.execTravelExpiry slot s
  | .settleExpiry slot => Sys2Proof.Machine.execSettleExpiry slot s
  | .suspensionExpiry slot => Sys2Proof.Machine.execSuspensionExpiry slot s
  | .drainLimitExpiry slot => Sys2Proof.Machine.execDrainLimitExpiry slot s
  | .fixedDrainExpiry slot => Sys2Proof.Machine.execFixedDrainExpiry slot s
  | .recoveryTimerExpiry slot => Sys2Proof.Machine.execRecoveryTimerExpiry slot s
  | .restartDelayExpiry slot => Sys2Proof.Machine.execRestartDelayExpiry slot s
  | .regulationPeriod slot => Sys2Proof.Machine.execRegulationPeriod slot s
  | .runConfirmExpiry slot => Sys2Proof.Machine.execRunConfirmExpiry slot s
  | .changeTimerExpiry => Sys2Proof.Machine.execChangeTimerExpiry s
  | .dwellExpiry slot => Sys2Proof.Machine.execDwellExpiry slot s
  | .storeWriteStart => Sys2Proof.Machine.execStoreWriteStart s
  | .storeWriteComplete matched => Sys2Proof.Machine.execStoreWriteComplete matched s
  | .powerLoss => Sys2Proof.Machine.execPowerLoss s

end Sys2Proof.Machine
end

