-- ==== Sys2Proof/Machine/Step.lean ====
section
/-! DEFINITION. The step: the command at the front of the queue runs; with no command waiting the part's clock runs on. -/

namespace Sys2Proof.Machine

open Sys2Proof

/-- An idle step: the clock of a powered part advances by one tick; an unpowered part stands. DESIGN CHOICE (log 2). -/
def State.idle (s : State) : State := if s.phase = .off then s else { s with clock := s.clock + Config.tickMs }

/-- Take the command at the front of the queue and run it on the state with the queue's rest. -/
def step (s : State) : Host.Outcome State Fault Refusal :=
  match s.pending with
  | [] => .next s.idle
  | c :: rest => exec c { s with pending := rest }

/-- The state with the command that a word of the opcode table spells put at the front of its queue. No row of the table gives bits,
so no word spells a command and the state stays as it is (log 5). -/
def State.withFetchWord (s : State) (nbits w : Nat) : State :=
  match decodeTableWord nbits w with
  | some c => { s with pending := c :: s.pending }
  | none => s

end Sys2Proof.Machine
end

