-- ==== Sys2Proof/Safety.lean ====
section
/-! DEFINITION. The terms the statements are made in: what a request leaves behind when nothing but its reply and its notices
reaches the ports, the laws of the part that every step keeps, and the bytes of a frame sent one by one. -/

namespace Sys2Proof.Machine

open Sys2Proof

/-- The command a request code stands for. -/
def ReqCode.command (c : ReqCode) (r : Request) : Instr :=
  match c with
  | .echo => .echo r | .readSlot => .readSlot r | .readQueue => .readQueue r | .readLine => .readLine r
  | .readReliefs => .readReliefs r | .readRecipe => .readRecipe r | .readNote => .readNote r
  | .take => .take r | .release => .release r | .hand => .hand r | .postNote => .postNote r | .setHold => .setHold r
  | .setGap => .setGap r | .stepGap => .stepGap r | .recallGap => .recallGap r | .suspend => .suspend r
  | .resume => .resume r | .go => .go r | .flush => .flush r | .calibrate => .calibrate r | .clearBlock => .clearBlock r
  | .setRate => .setRate r | .startFeed => .startFeed r | .stopFeed => .stopFeed r | .startLine => .startLine r
  | .applyRecipe => .applyRecipe r | .abortChange => .abortChange r | .saveRecipe => .saveRecipe r
  | .writeParams => .writeParams r | .lockParams => .lockParams r | .setMask => .setMask r | .clearMask => .clearMask r
  | .clearConditions => .clearConditions r | .subscribe => .subscribe r | .lineReset => .lineReset r

/-- A command answers a next state of which something holds. -/
def Answers (i : Instr) (s : State) (p : State → Prop) : Prop := ∃ t, exec i s = .next t ∧ p t

/-- A frame on the request's port is taken, and the request code admits its payload's length (R171, R173, R174). -/
abbrev Taken (s : State) (c : ReqCode) (r : Request) : Prop := s.takes r.port = true ∧ c.admits r = true

/-- Why the holder check turns a port away from a slot it does not hold: LOCAL while the slot's area is under the selector of another
station, else AUTHORITY (R119). -/
def State.awayReason (s : State) (p : Port) (i : SlotId) : Reason :=
  match s.localStation i with
  | some q => if q = p then .authority else .localMode
  | none => .authority

/-- Slot `i` is the lowest-numbered of a list that the request's port does not hold (R56, R155). -/
abbrev FirstNotHeld (s : State) (r : Request) (l : List SlotId) (i : SlotId) : Prop :=
  i ∈ l ∧ (s.slots.get i).holder ≠ some r.port ∧ ∀ j ∈ l, j < i → (s.slots.get j).holder = some r.port

/-- The request names slot `i`, and its port is that slot's holder (R119). -/
abbrev Owns (s : State) (r : Request) (i : SlotId) : Prop :=
  slotOfByte r.slot = some i ∧ (s.slots.get i).holder = some r.port

/-- The request is taken, names slot `i` and comes from its holder, and the slot is a crusher. -/
abbrev OnCrusher (s : State) (c : ReqCode) (r : Request) (i : SlotId) : Prop :=
  Taken s c r ∧ Owns s r i ∧ (s.slots.get i).kind.isCrusher = true

/-- The request is taken, names slot `i` and comes from its holder, and the slot is a feeder. -/
abbrev OnFeeder (s : State) (c : ReqCode) (r : Request) (i : SlotId) : Prop :=
  Taken s c r ∧ Owns s r i ∧ (s.slots.get i).kind = .feeder

/-- Neither lockout, line stop nor hold span refuses a move at the slot (R120). -/
abbrev Unbarred (s : State) (i : SlotId) : Prop :=
  (s.slots.get i).lockout.state = false ∧ s.lineStop.state = false ∧ s.held i = false

/-- The part once the request's immediate reply has joined its port's transmit queue: the port's REQNO has risen by 1, and the
reply carries that number with the request's KIND, TAG and SLOT (R173, R175). -/
def State.withReply (s : State) (c : ReqCode) (r : Request) (d : Disposition) (why : Reason) (body : ReplyBody) : State :=
  s.modPort r.port (fun q =>
    { q with reqno := q.reqno + 1, tx := q.tx ++ [⟨c.code, d, why, r.tag, q.reqno + 1, r.slot, body⟩] })

/-- The request is refused for this reason, and nothing changes but its port's REQNO and its reply (R120, R175). -/
abbrev Refuses (s : State) (c : ReqCode) (r : Request) (why : Reason) : Prop :=
  exec (c.command r) s = .next (s.withReply c r .refused why .empty)

/-- A port once an event's notices have joined its queue: the model's mark `noticeTurn` is set where they are the first frames to
join while its transmitter is free with nothing waiting (R158, R159, R176; log 15). -/
def PortState.announce (q : PortState) (p : Port) (ns : List Notice) : PortState :=
  let q' := ns.foldl (fun q n => q.join p n) q
  { q' with noticeTurn := q.noticeTurn || (q.sending.isNone && q.tx.isEmpty && q.notices.isEmpty && !q'.notices.isEmpty) }

/-- The part once an event's notices have joined the queues of the enabled ports. -/
def State.announce (s : State) (ns : List Notice) : State :=
  { s with ports := PerPort.of (fun p => if s.enabled p then (s.ports.get p).announce p ns else s.ports.get p) }

/-- No TRIM is due at a start check of the slot: AUTO_TRIM is off, or W has not risen by TRIM_STEP since the last move (R59). -/
abbrev NoTrim (x : Slot) : Prop :=
  x.cp.autoTrim = false ∨ x.kind ≠ .cone ∨ (0 < x.cp.trimStep ∧ x.crusher.w < x.crusher.wAtMove + x.cp.trimStep)

/-- A start check at the slot finds nothing to start, no TRIM to create and no wear block to take (R41, R59, R82). -/
abbrev NothingToStart (x : Slot) : Prop :=
  x.crusher.motion ≠ .idle ∨ (x.crusher.queue = [] ∧ x.crusher.wearBlock = false ∧ NoTrim x)

/-- The slot holds no work that a change of holder away from a port would end or suspend (R125). -/
abbrev NoWorkOf (s : State) (i : SlotId) (p : Port) : Prop :=
  (∀ e ∈ (s.slots.get i).crusher.queue, e.origin ≠ .port p)
    ∧ (∀ m ∈ (s.slots.get i).crusher.move, m.entry.origin ≠ .port p)
    ∧ (∀ c ∈ s.change, c.origin ≠ p)

/-- The bytes received one by one at a port, without a framing error and within one tick of the clock. -/
def sendBytes (s : State) (p : Port) (l : List Byte) : Host.Outcome State Fault Refusal :=
  l.foldl (fun o b =>
    match o with
    | .next t => exec (.characterReceived p ⟨b, false⟩) t
    | .fault f => .fault f
    | .refused k => .refused k) (.next s)

/-! ### Laws that every step keeps -/

/-- A transmit queue holds at most 64 replies and a notice queue at most 16 notices (R159, R176). -/
def PortLaw (s : State) : Prop := ∀ p : Port, (s.ports.get p).tx.length ≤ 64 ∧ (s.ports.get p).notices.length ≤ 16

/-- A move queue holds at most 4 entries, and no priority entry stands behind a non-priority one (R36). -/
def QueueLaw (s : State) : Prop :=
  ∀ i : SlotId, (s.slots.get i).crusher.queue.length ≤ 4
    ∧ (s.slots.get i).crusher.queue.Pairwise (fun a b => b.priority = true → a.priority = true)

/-- A rate reference other than 0 stands only at a RUNNING feeder with no inhibit reason, and lies within R_MIN..R_MAX; the feeder
timers run only in RUNNING; and only a feeder slot with its own lockout released, in a part past its start-up, has left STOPPED (R100,
R106, R108, R114, R183). -/
def FeedLaw (s : State) : Prop :=
  ∀ i : SlotId,
    let x := s.slots.get i
    (x.feeder.r ≠ 0 → x.feeder.run = .running ∧ x.feeder.inhibits.isEmpty = true)
      ∧ (x.feeder.run ≠ .running → x.feeder.regTimer = none ∧ x.feeder.confirmTimer = none)
      ∧ (x.feeder.run ≠ .stopped → x.kind = .feeder ∧ x.lockout.state = false ∧ s.phase = .running)
      ∧ (x.feeder.r ≠ 0 → x.fp.rMin ≤ x.fp.rMax → x.fp.rMin ≤ x.feeder.r ∧ x.feeder.r ≤ x.fp.rMax)

/-- A crusher has a move record exactly in the states of a move, or carried by a relief episode; a run record exactly in
CALIBRATING; an episode exactly in RELIEF and RECOVERING; and nothing queued in BLOCKED (R42, R52, R62, R85). -/
def MotionCoherent (c : Crusher) : Prop :=
  match c.motion with
  | .draining | .moving | .settling | .suspended => c.move.isSome = true ∧ c.cal = none ∧ c.episode = none
  | .relief | .recovering => c.cal = none ∧ c.episode.isSome = true
  | .calibrating => c.move = none ∧ c.cal.isSome = true ∧ c.episode = none
  | .idle => c.move = none ∧ c.cal = none ∧ c.episode = none
  | .blocked _ => c.move = none ∧ c.cal = none ∧ c.episode = none ∧ c.queue = []

/-- What every crusher slot keeps to: its records fit its motion state; an episode that returns to IDLE or is abandoned carries no
move; only a jaw drains, and it has neither an episode nor a relief switch in use (R43, R62, R165); while its lockout input is active it
is IDLE, BLOCKED or in an abandoned RELIEF, and no move is in flight (R54, R74); and before
start-up has ended it is IDLE or BLOCKED (R61). -/
def MotionLaw (s : State) : Prop :=
  ∀ i : SlotId,
    let x := s.slots.get i
    let c := x.crusher
    x.kind.isCrusher = true →
      MotionCoherent c
        ∧ (∀ e ∈ c.episode, e.returnTo = .idle ∨ e.abandoned = true → c.move = none)
        ∧ (c.motion = .draining ∨ (∃ m ∈ c.move, m.returnTo = .draining) → x.kind = .jaw)
        ∧ (x.kind = .jaw → c.episode = none ∧ x.relief.timer = none)
        ∧ (x.lockout.state = true →
            (c.motion = .relief ∧ c.move = none ∧ ∀ e ∈ c.episode, e.abandoned = true) ∨ c.motion = .idle ∨ ∃ b, c.motion = .blocked b)
        ∧ (s.phase ≠ .running → c.motion = .idle ∨ ∃ b, c.motion = .blocked b)

/-- W lies within 0..WEAR_MAX, and W_at_move does not exceed W (R79). -/
def WearLaw (s : State) : Prop :=
  ∀ i : SlotId,
    let x := s.slots.get i
    x.crusher.w ≤ x.cp.wearMax ∧ x.crusher.wAtMove ≤ x.crusher.w

/-- A crusher's CLOSE output is on only while its position reading is valid and below the limit of the command that asks for it; that
limit is CL, or P_HI in the APPROACH stage; where nothing drives, the command is HOLD; and a settle timer runs only where the drive
holds (R23, R44, R45, R167). -/
def DriveLaw (s : State) : Prop :=
  ∀ i : SlotId,
    let x := s.slots.get i
    let c := x.crusher
    let d := x.driver
    x.kind.isCrusher = true →
      (d.out = some .closing →
          d.cmd.dir = some .closing ∧ x.position.valid = true ∧ ∃ p, x.position.last = some p ∧ (p : Int) < d.cmd.limit)
        ∧ (d.cmd.dir = some .closing →
            d.cmd.limit = x.closeLimit ∨ ((∃ r ∈ c.cal, r.stage = .approach) ∧ d.cmd.limit = x.cp.pHi))
        ∧ (d.cmd.dir ≠ none →
            c.settle = none
              ∧ (c.motion = .moving ∨ c.motion = .recovering ∨ (c.motion = .calibrating ∧ ∃ r ∈ c.cal, r.stage ≠ .drain)))
        ∧ (c.settle ≠ none →
            c.motion = .settling ∨ c.motion = .recovering
              ∨ (c.motion = .calibrating ∧ ∃ r ∈ c.cal, r.stage = .reopen ∨ r.stage = .backoff))

/-- No two crushers name the same feeder, and what a crusher names is a feeder (R6, R11). -/
def LinkLaw (s : State) : Prop :=
  ∀ i f : SlotId, (s.slots.get i).kind.isCrusher = true → (s.slots.get i).cp.linkedFeeder = some f →
    (s.slots.get f).kind = .feeder
      ∧ ∀ j : SlotId, (s.slots.get j).kind.isCrusher = true → (s.slots.get j).cp.linkedFeeder = some f → j = i

/-- While a crusher's lockout input is active, LOCKOUT stands on its linked feeder, once start-up has ended (R54, R106, R183). -/
def LockoutLaw (s : State) : Prop :=
  ∀ i f : SlotId, s.phase = .running → (s.slots.get i).kind.isCrusher = true → (s.slots.get i).lockout.state = true →
    (s.slots.get i).cp.linkedFeeder = some f → (s.slots.get f).feeder.inhibits.lockout = true

/-! ### Frames -/

/-- At the ports nothing has changed but that replies and notices have joined behind those that wait (R159, R176). -/
def PortsHeard (s t : State) : Prop :=
  ∀ p : Port,
    let q := s.ports.get p
    let q' := t.ports.get p
    q' = { q with tx := q'.tx, notices := q'.notices, overrun := q'.overrun, noticeTurn := q'.noticeTurn }
      ∧ q.tx <+: q'.tx ∧ q.notices <+: q'.notices

/-- The six bytes of a payload from an offset on code this recipe entry: its slot, and with mode 0xFF a gap for a crusher, else a base rate,
a mode and a cavity setpoint for a feeder, all within their ranges (R135, R136, R174). -/
def CodesEntry (s : State) (p : List Byte) (o : Nat) (e : RecipeEntry) : Prop :=
  slotOfByte (byteAt p o) = some e.slot
    ∧ match e.value with
      | .gap g => (s.slots.get e.slot).kind.isCrusher = true ∧ byteAt p (o + 3) = 0xFF ∧ g = wordAt p (o + 1) ∧ g ≤ 4095
      | .feed rb mode ls =>
        (s.slots.get e.slot).kind = .feeder ∧ RegMode.ofByte (byteAt p (o + 3)) = some mode ∧ rb = wordAt p (o + 1) ∧ rb ≤ 1000
          ∧ ls = wordAt p (o + 4) ∧ ls ≤ 1000

/-- An IDLE or BLOCKED crusher holds an inhibit reason on its linked feeder: LOCKOUT under its lockout input, RELIEF in the two blocks of
chapter 4 or under an asserted relief switch outside an episode, RECOVERY_DELAY while its restart delay runs, CALIBRATE while worn out
(R14). -/
def ReasonHeld (x : Slot) : Inhibit → Prop
  | .lockout => x.lockout.state = true
  | .relief => x.crusher.motion = .blocked .trampRepeat ∨ x.crusher.motion = .blocked .recoveryFail
      ∨ (x.kind = .cone ∧ x.relief.state = true ∧ x.crusher.episode = none)
  | .recoveryDelay => x.crusher.restart ≠ none
  | .calibrate => x.crusher.motion = .blocked .wearLimit
  | .drain => False

/-- The holder of a slot once its area is `area`: the station under LOCAL there; else the plant, or a station whose area it is, keeps the slot
(R3). -/
def State.seatIn (s : State) (i : SlotId) (area : Area) : Option Port :=
  match area.station.filter s.selectorLocal, (s.slots.get i).holder with
  | some p, _ => some p
  | none, some .plant => some .plant
  | none, some p => if area.station = some p then some p else none
  | none, none => none

/-- Nothing has changed but the clock, the dirty marks, slot `i`'s crusher, driver and condition set, the inhibit set and reference of
the feeder linked to it, and what has joined the ports' queues. -/
def OnlyCrusher (s t : State) (i : SlotId) : Prop :=
  let x := s.slots.get i
  t = { s with slots := t.slots, ports := t.ports, dirty := t.dirty, clock := t.clock }
    ∧ PortsHeard s t
    ∧ ∀ j : SlotId,
        let y := s.slots.get j
        let y' := t.slots.get j
        let fed := { y.feeder with inhibits := y'.feeder.inhibits, r := y'.feeder.r, rPrev := y'.feeder.rPrev, seed := y'.feeder.seed }
        (j ≠ i → y' = { y with feeder := y'.feeder })
          ∧ (j = i → y' = { y with crusher := y'.crusher, driver := y'.driver, conds := y'.conds, feeder := y'.feeder })
          ∧ (x.cp.linkedFeeder ≠ some j → y'.feeder = y.feeder)
          ∧ (x.cp.linkedFeeder = some j → y'.feeder = fed)

/-- Nothing has changed but the clock, the line change, the dirty marks, what has joined the ports' queues, and the work of the slots:
their crushers, drivers, condition sets and feeders. Kinds, records, holders, masks, inputs, settings of the line and the store stand. -/
def OnlyWork (s t : State) : Prop :=
  t = { s with slots := t.slots, ports := t.ports, dirty := t.dirty, clock := t.clock, change := t.change }
    ∧ PortsHeard s t
    ∧ ∀ j : SlotId,
        let y' := t.slots.get j
        y' = { s.slots.get j with crusher := y'.crusher, driver := y'.driver, conds := y'.conds, feeder := y'.feeder }

/-- The reply, if any, that the end of an entry or move sends to a port (R39, R51, R175). -/
def Entry.finalTo (e : Entry) (i : SlotId) (p : Port) (d : Disposition) (why : Reason) (body : ReplyBody) : List Reply :=
  if e.origin = .port p ∧ e.ack = true then [⟨e.code.code, d, why, e.tag, e.reqno, e.slotByte i, body⟩] else []

/-- The entry an accepted request builds (R35). -/
def State.entryFor (s : State) (c : ReqCode) (r : Request) (kind : MoveKind) (value : Int) (applied : Option Nat)
    (adjusted : Bool) : Entry :=
  { origin := .port r.port, code := c, tag := r.tag, reqno := (s.ports.get r.port).reqno + 1, ack := r.ackWanted, kind := kind,
    requested := value, applied := applied, adjusted := adjusted, priority := r.priority, staged := r.staged, changeId := none }

/-- Once the slot stands IDLE nothing starts there: no entry waits, no wear block is due, and no TRIM can be created (R41, R59, R82). -/
abbrev Quiet (x : Slot) : Prop := x.crusher.queue = [] ∧ x.crusher.wearBlock = false ∧ NoTrim x

/-- A reason stands on the feeder linked to a slot, when it has one (R6). -/
def OnLinked (s : State) (i : SlotId) (p : Feeder → Prop) : Prop :=
  ∀ f, (s.slots.get i).cp.linkedFeeder = some f → p (s.slots.get f).feeder

/-- The drive command of a move at a position outside its deadband: the direction, SLOW within SLOW_BAND, and with CLOSE the limit CL
(R44, R167). -/
def Slot.moveCommand (x : Slot) (p target : Nat) (d : Dir) : DriveCmd :=
  ⟨some d, near p target x.cp.slowBand, if d = .closing then x.closeLimit else 0⟩

/-- A TRIM is created at slot `i` and starts, of the state `s` that the event has reached: the move record of the entry with origin LINE, its
target for the target in force, the travel timer, and the drive toward the target, or SETTLING within DB; a target out of reach ends it
FAILED(REACH), and none follows (R28, R33, R42, R44, R45, R59). -/
def TrimRuns (s t : State) (i : SlotId) : Prop :=
  let x := s.slots.get i
  let c := x.crusher
  let y := t.slots.get i
  let aim := targetFor x.cp c.z c.w (x.mask.mem .reach) c.tf
  let trim : Entry :=
    { origin := .line, code := .setGap, tag := 0, reqno := 0, ack := false, kind := .trim, requested := c.tf, applied := none,
      adjusted := false, priority := false, staged := false, changeId := none }
  let met := if aim.reach then x.conds.insert .reach else x.conds
  (∀ pt p, aim.pos = some pt → x.position.valid = true → x.position.last = some p →
      let run := { c with
        move := some ⟨trim, some c.tf, pt, if aim.reach then some .reach else none, .moving, .zero, 0⟩
        travel := some (s.clock + x.cp.travel * 1000) }
      y.conds = met
        ∧ (∀ d, toward p pt x.cp.db = .drive d → y.crusher = { run with motion := .moving } ∧ y.driver.cmd = x.moveCommand p pt d)
        ∧ (toward p pt x.cp.db = .arrived →
          y.crusher = { run with motion := .settling, settle := some (s.clock + x.cp.settle) }
            ∧ y.driver.cmd = .hold ∧ y.driver.out = none))
    ∧ (aim.pos = none →
      y.conds = met ∧ y.driver.cmd = .hold ∧ y.driver.out = none
        ∧ y.crusher =
          { c with move := none, travel := none, settle := none, suspension := none, drainLimit := none, fixedDrain := none }
        ∧ ∀ q, s.enabled q = true → (s.ports.get q).subs = NoticeSet.every → (s.ports.get q).notices.length ≤ 13 →
          ⟨s.clock / 1000, some i, .moveEnd .trim .failed .reach .line 0 c.tf⟩ ∈ (t.ports.get q).notices)

/-! ### The items of a line change -/

/-- A value held within a range (R15, R30, R109). -/
def heldTo (lo hi v : Nat) : Nat := if v < lo then lo else if hi < v then hi else v

/-- The skip rules (R141). -/
def State.skipRule (s : State) (p : Port) (e : RecipeEntry) : Option Reason :=
  let x := s.slots.get e.slot
  let formed := match e.value with
    | .gap _ => x.kind.isCrusher
    | .feed .. => x.kind == .feeder
  let blocked := match e.value, x.crusher.motion with
    | .feed .., _ => x.feeder.paramFault
    | .gap _, .blocked _ => true
    | .gap _, _ => false
  if formed = false then some .badSlot
  else if x.holder ≠ some p then some (s.awayReason p e.slot)
  else if x.lockout.state then some .lockout
  else if s.held e.slot then some .holdSpan
  else if blocked then some .blocked
  else none

/-- The item of a recipe entry at its creation: SKIPPED by a rule, else PENDING; wave 2 for a gap, wave 1 for a rate below the present
one, else 3 (R140 to R142; the wave of a SKIPPED feed item, log 42). -/
def State.createdItem (s : State) (p : Port) (e : RecipeEntry) : Item :=
  let x := s.slots.get e.slot
  let skip := s.skipRule p e
  let wave := match e.value with
    | .gap _ => 2
    | .feed rb _ _ => if rb < x.feeder.rb then 1 else 3
  ⟨e.slot, x.kind, e.value, wave, if skip.isSome then .skipped else .pending, skip.getD .noReason, none⟩

/-- What the application of a feed item makes of it, by the checks of SET_RATE from LOCKOUT on (R109, R142, R145). -/
def State.ratedItem (s : State) (it : Item) : Item :=
  match it.value with
  | .gap _ => it
  | .feed rb _ _ =>
    let x := s.slots.get it.slot
    let rb' := heldTo x.fp.rMin x.fp.rMax rb
    if x.lockout.state then { it with state := .failed, reason := .lockout }
    else if s.held it.slot then { it with state := .failed, reason := .holdSpan }
    else if x.feeder.paramFault then { it with state := .failed, reason := .blocked }
    else if rb' = rb then { it with state := .done, reason := .noReason, applied := some rb }
    else if x.mask.mem .envelope then { it with state := .adjusted, reason := .envelope, applied := some rb' }
    else { it with state := .failed, reason := .envelope }

/-- What the enqueue of a gap item makes of it (R31, R38, R143). -/
def State.queuedItem (s : State) (it : Item) : Item :=
  match it.value with
  | .feed .. => it
  | .gap g =>
    let x := s.slots.get it.slot
    let g' := heldTo x.cp.envMin x.cp.envMax g
    if g' ≠ g ∧ x.mask.mem .envelope = false then { it with state := .failed, reason := .envelope }
    else if 4 ≤ x.crusher.queue.length then { it with state := .failed, reason := .queueFull }
    else { it with state := .active, reason := .noReason, applied := some g' }

/-- A PENDING item once waves 1 and 2 have run; a wave-3 item stays as it is (R142, R143). -/
def State.afterWaveTwo (s : State) (it : Item) : Item :=
  if it.state = .pending then (if it.wave = 1 then s.ratedItem it else if it.wave = 2 then s.queuedItem it else it) else it

/-- A PENDING feed item once wave 3 has run (R145). -/
def State.afterWaveThree (s : State) (it : Item) : Item := if it.state = .pending then s.ratedItem it else it

/-- The item was applied with another value than it asked for (R140). -/
def Item.clamped (it : Item) : Bool :=
  match it.value with
  | .gap g => it.applied.any (· != g)
  | .feed rb _ _ => it.applied.any (· != rb)

/-- The feeder once a feed item is applied: base rate, mode and setpoint are the item's (R109); an item with no applied value leaves it
as it is. -/
def Feeder.took (f : Feeder) (it : Item) : Feeder :=
  match it.value, it.applied with
  | .feed _ mode ls, some rb => { f with rb := rb, mode := mode, ls := ls, seed := f.seed || (f.mode == .fixed && mode == .level) }
  | _, _ => f

/-- The slot once its item is applied: a feed item sets its feeder, a gap item's entry joins its queue, and a clamp records ENVELOPE (R31,
R36, R109, R143); an item with no applied value leaves it as it is. `e` is an entry of the change, its gaps left open. -/
def Slot.took (x : Slot) (it : Item) (e : Entry) : Slot :=
  { x with
    conds := if it.clamped then x.conds.insert .envelope else x.conds
    feeder := x.feeder.took it
    crusher := match it.value, it.applied with
      | .gap g, some a =>
        { x.crusher with queue := x.crusher.queue ++ [{ e with requested := g, applied := some a, adjusted := it.clamped }] }
      | _, _ => x.crusher }

/-- The outcome that is a next state. -/
abbrev nextState (t : State) : Host.Outcome State Fault Refusal := .next t

end Sys2Proof.Machine
end

