-- ==== Sys2Proof/Certificates/Slice0/Obligations.lean ====
section
/-! DEFINITION. The statements for the provers. Each says what a command does, in the terms of Safety.lean; `t` is the state after it.
Clocks, expiries and samples stand as log 3 says. -/

open Sys2Proof Sys2Proof.Machine

/-! ### The machine as a whole -/

/-- The command at the front of the queue runs, on the state with the rest of the queue. -/
def Obligations.StepRunsTheFrontCommand : Prop :=
  ∀ (c : Instr) (s : State), step { s with pending := c :: s.pending } = exec c s

/-- Every command of the table has an effect in every state, and none touches the commands that wait. -/
def Obligations.EveryCommandCompletes : Prop :=
  ∀ (c : Instr) (s : State), ∃ t, exec c s = .next t ∧ t.pending = s.pending

/-- The bounds and the order of the queues are kept by every step (R36, R159, R176). -/
def Obligations.QueueBoundsAreKept : Prop :=
  ∀ s t : State, step s = .next t → (PortLaw s → PortLaw t) ∧ (QueueLaw s → QueueLaw t)

/-- Every step keeps the law of the feeders (R100, R106, R108). -/
def Obligations.FeedLawIsKept : Prop := ∀ s t : State, FeedLaw s → step s = .next t → FeedLaw t

/-- Every step keeps the records of the crushers in agreement with their motion states (R42, R52, R54, R61, R85), and keeps W within
0..WEAR_MAX and W_at_move within 0..W (R79; at a power-on by the clamp of log 28, which is the model's choice). -/
def Obligations.MotionLawIsKept : Prop :=
  ∀ s t : State, step s = .next t → (MotionLaw s → MotionLaw t) ∧ (WearLaw s → WearLaw t)

/-- Every step keeps a CLOSE output on only below its limit, at a valid reading (R44, R167). -/
def Obligations.DriveLawIsKept : Prop :=
  ∀ s t : State, MotionLaw s → DriveLaw s → step s = .next t → DriveLaw t

/-- No command but a power-on, which loads links from the store, breaks the device law of the lockouts: a locked-out crusher's feeder
has LOCKOUT in its inhibit set, and with the law of the feeders a reference of 0 (R54, R106). -/
def Obligations.LockoutHoldsTheFeedOff : Prop :=
  ∀ (c : Instr) (s t : State), (∀ scan, c ≠ .powerOn scan) → LinkLaw s → LockoutLaw s → FeedLaw s → exec c s = .next t →
    LinkLaw t ∧ LockoutLaw t
      ∧ ∀ i f : SlotId, t.phase = .running → (t.slots.get i).kind.isCrusher = true → (t.slots.get i).lockout.state = true →
          (t.slots.get i).cp.linkedFeeder = some f → (t.slots.get f).feeder.r = 0

/-- The part as start-up leaves it, on the blank store that is the model's choice (log 1), meets every law. -/
def Obligations.ResetMeetsTheLaws : Prop :=
  PortLaw State.reset ∧ QueueLaw State.reset ∧ FeedLaw State.reset ∧ MotionLaw State.reset ∧ WearLaw State.reset
    ∧ DriveLaw State.reset ∧ LinkLaw State.reset ∧ LockoutLaw State.reset

/-! ### The setting link (chapter 11) -/

/-- A frame at a disabled port, before the end of start-up or with 64 replies waiting changes nothing. A KIND that is no request code is
refused BAD_KIND, and a length the code does not admit BAD_VALUE. Every request taken gets an immediate reply with its own KIND, TAG and
SLOT and the port's next request number; LINE_RESET alone leaves the number at 0 (R170, R173, R175, R176, R178, R179). A request command
stands for its frame (log 4). -/
def Obligations.EveryRequestTakenIsAnswered : Prop :=
  (∀ (s : State) (r : Request),
     (s.takes r.port = false →
         (∀ c, exec (ReqCode.command c r) s = .next s) ∧ ∀ kind, exec (.badKindRequest kind r) s = .next s)
       ∧ (s.takes r.port = true →
         (∀ c : ReqCode, c.admits r = false → Refuses s c r .badValue)
           ∧ ∀ kind, ReqCode.ofByte kind = none →
               exec (.badKindRequest kind r) s = .next (s.modPort r.port (fun q =>
                 { q with reqno := q.reqno + 1, tx := q.tx ++ [⟨kind, .refused, .badKind, r.tag, q.reqno + 1, r.slot, .empty⟩] }))))
    ∧ (∀ (s : State) (c : ReqCode) (r : Request), s.takes r.port = true →
         ∃ t, exec (c.command r) s = .next t
           ∧ (∃ rep ∈ (t.ports.get r.port).tx, rep.kind = c.code ∧ rep.tag = r.tag ∧ rep.slot = r.slot
               ∧ rep.reqno = (s.ports.get r.port).reqno + 1)
           ∧ ((t.ports.get r.port).reqno = (s.ports.get r.port).reqno + 1 ∨ (c = .lineReset ∧ (t.ports.get r.port).reqno = 0))
           ∧ ∀ p, p ≠ r.port → c ≠ .lineReset → (t.ports.get p).reqno = (s.ports.get p).reqno)

/-- The bytes of a request frame, received one after the other by an assembler in HUNT, do what the request does, whatever its code and
its fields; bytes with a KIND that is no request code do what BAD_KIND_REQUEST does (section 11.2, R171 to R173; log 4). -/
def Obligations.FrameBytesSpellTheRequest : Prop :=
  ∀ (s : State) (r : Request), s.linkUp r.port = true → (s.ports.get r.port).asm = .hunt → r.payload.length ≤ 241 →
    (∀ c : ReqCode, sendBytes s r.port (requestBytes c.code r) = exec (c.command r) s)
      ∧ ∀ kind, ReqCode.ofByte kind = none → sendBytes s r.port (requestBytes kind r) = exec (.badKindRequest kind r) s

/-- What a character does to the assembler of a port whose link is up, for every state of the assembler; a frame whose check fails is
dropped; and the end of a gap puts the assembler in HUNT (R171). -/
def Obligations.AssemblerTakesCharacters : Prop :=
  ∀ (s : State) (p : Port) (c : RxChar), s.linkUp p = true →
    let hunted := if c.framingError = false ∧ c.data = 0xC3 then Assembler.collect [] s.clock else .hunt
    ((s.ports.get p).asm = .hunt → exec (.characterReceived p c) s = .next (s.setAsm p hunted))
      ∧ ∀ got lastAt, (s.ports.get p).asm = .collect got lastAt →
        exec (.interCharacterGap p) s = .next ((s.reach (lastAt + 21)).setAsm p .hunt)
          ∧ (lastAt + 20 < s.clock → exec (.characterReceived p c) s = .next (s.setAsm p hunted))
          ∧ (s.clock ≤ lastAt + 20 → c.framingError = true → exec (.characterReceived p c) s = .next (s.setAsm p .hunt))
          ∧ (s.clock ≤ lastAt + 20 → c.framingError = false →
            (got = [] →
                exec (.characterReceived p c) s
                  = .next (s.setAsm p (if 5 ≤ c.data.toNat ∧ c.data.toNat ≤ 246 then .collect [c.data] s.clock else .hunt)))
              ∧ ∀ len rest, got = len :: rest →
                (rest.length < len.toNat + 1 →
                    exec (.characterReceived p c) s = .next (s.setAsm p (.collect (got ++ [c.data]) s.clock)))
                  ∧ (rest.length = len.toNat + 1 → checkPasses (got ++ [c.data]) = false →
                    exec (.characterReceived p c) s = .next (s.setAsm p .hunt)))

/-- The check value: the register from all ones over the bits of the bytes, most significant first; 0x29B1 over 0x31 to 0x39; sent high
byte first behind the bytes from LEN on; and what a received frame is compared with (R172). -/
def Obligations.CheckField : Prop :=
  (∀ bytes : List Byte,
      crc bytes = (bytes.flatMap (fun b => [7, 6, 5, 4, 3, 2, 1, 0].map b.getLsbD)).foldl
        (fun (reg : Word16) d => if reg.getLsbD 15 = d then reg <<< 1 else (reg <<< 1) ^^^ 0x1021) 0xFFFF)
    ∧ crc [0x31, 0x32, 0x33, 0x34, 0x35, 0x36, 0x37, 0x38, 0x39] = 0x29B1
    ∧ (∀ body : List Byte, ∃ hi lo : Byte,
        frameBytes body = 0xC3 :: BitVec.ofNat 8 body.length :: body ++ [hi, lo]
          ∧ hi ++ lo = crc (BitVec.ofNat 8 body.length :: body))
    ∧ ∀ (counted : List Byte) (hi lo : Byte), checkPasses (counted ++ [hi, lo]) = true ↔ crc counted = hi ++ lo

/-- The transmitter of a port takes the head reply, or with no reply waiting the head notice with the overrun mark, which it clears; it
takes nothing while a frame is sent; and the end of a frame sets it free (R159, R160, R176; a notice that joined first while the
transmitter stood free goes first, log 15). -/
def Obligations.Transmitter : Prop :=
  ∀ (s : State) (p : Port), s.linkUp p = true →
    let q := s.ports.get p
    exec (.frameTransmitted p) s = .next (s.modPort p (fun q => { q with sending := none }))
      ∧ (q.sending.isSome = true → exec (.transmitTake p) s = .next s)
      ∧ (q.sending = none →
        (∀ rep rest, q.tx = rep :: rest → q.noticeTurn = false ∨ q.notices = [] →
            exec (.transmitTake p) s
              = .next (s.modPort p (fun q => { q with tx := rest, sending := some (.reply rep), noticeTurn := false })))
          ∧ (∀ n rest, q.notices = n :: rest → q.noticeTurn = true ∨ q.tx = [] →
            exec (.transmitTake p) s
              = .next (s.modPort p (fun q =>
                  { q with notices := rest, sending := some (.notice n q.overrun), overrun := false, noticeTurn := false })))
          ∧ (q.tx = [] → q.notices = [] → exec (.transmitTake p) s = .next s))

/-- ECHO returns its payload, whatever the state of the line; it is refused BAD_SLOT off slot 0xFF and BAD_VALUE above 238 bytes
(R177). -/
def Obligations.EchoReturnsItsPayload : Prop :=
  ∀ (s : State) (r : Request), s.takes r.port = true →
    (239 ≤ r.payload.length → Refuses s .echo r .badValue)
      ∧ (r.payload.length ≤ 238 → r.slot ≠ 0xFF → Refuses s .echo r .badSlot)
      ∧ (r.payload.length ≤ 238 → r.slot = 0xFF →
        exec (.echo r) s = .next (s.withReply .echo r .done .noReason (.echoed r.payload)))

/-! ### Reading (R17, R18, R34, R60, R77, R134, R138) -/

/-- The requests that read report the state as it stands, with the fields their rules list, and change nothing else; part 1 of READ_SLOT is
the record of the slot's kind, a JAW's AUTO_TRIM reading off, and the lock mode; the timers of READ_RELIEFS are in ms, the change timer of
READ_LINE in whole seconds (R2, R17, R18, R22, R34, R35, R60, R77, R134, R138, R150; the seconds, log 19). -/
def Obligations.ReadsReportAndChangeNothing : Prop :=
  ∀ (s : State) (r : Request),
    (∀ i, slotOfByte r.slot = some i →
        let x := s.slots.get i
        let c := x.crusher
        let f := x.feeder
        let relation := relationOf x.cp c.z c.w c.tf x.position
        let gap := fun (p : Nat) => min ((if p ≤ c.z then gapOf x.cp.g (c.z - p) else 0) + c.w) 4095
        let stage := if c.motion = .calibrating then c.cal.map (·.stage) else none
        let crusher : CrusherReport :=
          { motion := c.motion, causes := if c.motion = .suspended then c.move.map (·.causes) else none, stage := stage, tf := c.tf,
            p := x.position.last, pValid := x.position.valid,
            pTf := if relation = .unordered then none else reportTarget x.cp c.z c.w c.tf,
            e := if relation = .unordered then none else x.position.last.map gap, relation := relation, z := c.z, w := c.w,
            tonnes := c.tonnes, wAtMove := c.wAtMove, occupancy := c.queue.length, headStaged := c.queue.head?.any (·.staged),
            recallDepth := c.stack.depth, level := x.level.last, levelValid := x.level.valid, power := x.power.last,
            powerValid := x.power.valid }
        let feeder : FeederReport :=
          { run := f.run, inhibits := f.inhibits, paramFault := f.paramFault, rb := f.rb, mode := f.mode, ls := f.ls, r := f.r,
            seed := f.seed, feedback := x.running.state, served := x.fp.served, binRel := x.fp.binRel }
        let shown := fun (e : Entry) =>
          (⟨e.origin, e.tag, e.reqno, e.ack, e.kind, e.requested, e.applied, e.adjusted, e.priority, e.staged, e.changeId⟩ : EntryReport)
        (Taken s .readSlot r → x.kind ≠ .unused →
            exec (.readSlot r) s = .next (
              if byteAt r.payload 0 = 0 then
                s.withReply .readSlot r .done .noReason (.slotState
                  { kind := x.kind, area := x.area, holder := x.holder, lock := x.lock, conds := x.conds, mask := x.mask,
                    summary := x.summary, crusher := if x.kind.isCrusher then some crusher else none,
                    feeder := if x.kind = .feeder then some feeder else none })
              else if byteAt r.payload 0 = 1 then
                s.withReply .readSlot r .done .noReason (.slotRecord
                  (match x.kind with
                    | .unused => .blank
                    | .jaw => .crusher .jaw { x.cp with autoTrim := false }
                    | .cone => .crusher .cone x.cp
                    | .feeder => .feeder x.fp) x.lock)
              else s.withReply .readSlot r .refused .badValue .empty))
          ∧ (Taken s .readQueue r → x.kind.isCrusher = true →
            exec (.readQueue r) s = .next (s.withReply .readQueue r .done .noReason (.queue
              { motion := c.motion, stage := stage, queue := c.queue.map shown, stack := c.stack.newestFirst, depth := c.stack.depth,
                lastCal := c.lastCal,
                move := c.move.map (fun m => ⟨shown m.entry, m.applied, m.target, m.adjusted.isSome,
                  if c.motion = .suspended then some ⟨m.returnTo, m.causes, m.remaining⟩ else none⟩) })))
          ∧ (Taken s .readReliefs r → x.kind = .cone →
            exec (.readReliefs r) s = .next (s.withReply .readReliefs r .done .noReason (.reliefs
              { asserted := x.relief.state, history := c.history, count := c.history.length,
                inWindow := (c.history.filter (fun t => s.clock / 1000 ≤ t + x.cp.reliefWindow)).length,
                reliefN := x.cp.reliefN, reliefWindow := x.cp.reliefWindow, episode := c.episode,
                recoveryRemaining := if c.motion = .recovering then c.travel.map (· - s.clock) else none,
                restartRemaining := c.restart.map (· - s.clock) }))))
      ∧ (r.slot = 0xFF →
        (Taken s .readLine r →
            exec (.readLine r) s = .next (s.withReply .readLine r .done .noReason (.line
              { time := s.clock / 1000,
                slots := PerSlot.of (fun i =>
                  let x := s.slots.get i
                  ⟨x.kind, x.area, x.holder, x.lockout.state, x.summary⟩),
                selectorA := s.selectorA.state, selectorB := s.selectorB.state && !s.portBStrap, portBDisabled := s.portBStrap,
                hold := s.hold, held := s.heldSet, lineStop := s.lineStop.state, summary := s.lineSummary, binState := s.bin.state,
                binLevel := s.bin.lastValid, thresholds := s.bin.thresholds,
                notes := PerPort.of (fun p => (s.ports.get p).note.map (·.sender)),
                change := s.change.map (fun c =>
                  ⟨c.id, c.origin, c.recipe, c.mode, c.wave, (c.timer - s.clock) / 1000,
                    c.items.map (fun it => ⟨it.slot, it.kind, it.state, it.reason⟩)⟩) })))
          ∧ (Taken s .readRecipe r →
            exec (.readRecipe r) s = .next (
              match slotOfByte (byteAt r.payload 0) with
              | some n => s.withReply .readRecipe r .done .noReason (.recipe (s.recipes.get n))
              | none => s.withReply .readRecipe r .refused .badValue .empty)))

/-- A target position lies between P_LO and CL; where no stage raises REACH it is Z less the counts of T − W, and the report shows just
that position, with the relation of the present position to it; where the report shows none, the relation is UNORDERED (R18, R23 to
R27, R34). -/
def Obligations.TargetsLieWithinReach : Prop :=
  ∀ (c : CrusherParams) (z w t : Nat) (masked : Bool),
    (∀ p, (targetFor c z w masked t).pos = some p →
        c.pLo ≤ p ∧ (p : Int) ≤ (z : Int) - countsOf c.g c.cm ∧ p ≤ c.pHi
          ∧ ((targetFor c z w masked t).reach = false →
              w + c.cm ≤ t ∧ (p : Int) = (z : Int) - countsOf c.g (t - w) ∧ reportTarget c z w t = some p))
      ∧ (∀ p, reportTarget c z w t = some p → targetFor c z w masked t = ⟨some p, false⟩)
      ∧ ∀ pos : PosChannel, relationOf c z w t pos =
          match pos.valid, pos.last, reportTarget c z w t with
          | true, some p, some pt =>
            if (p : Int) - pt < -c.db then .openOf else if (p : Int) - pt > c.db then .closedOf else .within
          | _, _, _ => .unordered

/-! ### Authority (chapter 7) -/

/-- The note boxes: POST_NOTE stores a note in an empty box of another enabled port and tells that port alone; READ_NOTE takes the
sender's own note; and every box is empty after start-up and after LINE_RESET (R132, R133). -/
def Obligations.NoteBoxes : Prop :=
  ∀ (s : State) (r : Request), r.slot = 0xFF →
    (Taken s .postNote r →
        (∀ q, Port.ofByte (byteAt r.payload 0) = some q → q ≠ r.port → s.enabled q = true → r.payload.length ≤ 34 →
            ((s.ports.get q).note.isSome = true → Refuses s .postNote r .boxFull)
              ∧ ((s.ports.get q).note = none →
                exec (.postNote r) s = .next
                  (((s.modPort q (fun b => { b with note := some ⟨r.port, byteAt r.payload 1, r.payload.drop 2⟩ })).withReply
                    .postNote r .done .noReason .empty).announce
                      [⟨s.lineClock, none, .notePosted q r.port (byteAt r.payload 1) (r.payload.length - 2)⟩])))
          ∧ ((∀ q, Port.ofByte (byteAt r.payload 0) = some q → q = r.port ∨ s.enabled q = false) ∨ 34 < r.payload.length →
            Refuses s .postNote r .badValue))
      ∧ (Taken s .readNote r →
        ((s.ports.get r.port).note = none → Refuses s .readNote r .empty)
          ∧ ∀ n, (s.ports.get r.port).note = some n →
            exec (.readNote r) s = .next
              ((s.modPort r.port (fun q => { q with note := none })).withReply .readNote r .done .noReason (.note n)))
      ∧ (∀ scan t u, exec (.powerOn scan) s = .next t → exec .startUpEnd t = .next u → ∀ p, (u.ports.get p).note = none)
      ∧ (Taken s .lineReset r → r.port = .plant →
        ∃ t, exec (.lineReset r) s = .next t ∧ ∀ p, (t.ports.get p).note = none)
      ∧ ∀ (q : PortState) (p dest sender : Port) (time len : Nat) (slots : SlotSet), p ≠ dest →
          q.join p ⟨time, none, .notePosted dest sender slots len⟩ = q

/-- The first checks of a request on one slot, in order: BAD_SLOT for another kind of slot, AUTHORITY or LOCAL where the sender is not
the holder, then for a request that adds a move and for CALIBRATE LOCKOUT, LINE_STOP and HOLD_SPAN, and for the former BLOCKED (R1, R40,
R58, R85, R119, R120; the BLOCKED of CALIBRATE, which a worn-out slot does not meet, is in CalibrationStartsAndContacts). -/
def Obligations.RefusalsComeInOrder : Prop :=
  ∀ (s : State) (c : ReqCode) (r : Request), Taken s c r →
    let onCrusher := c ∈ [.setGap, .stepGap, .recallGap, .suspend, .resume, .flush, .calibrate, .clearBlock]
    let onFeeder := c ∈ [.setRate, .startFeed, .stopFeed]
    (onCrusher → (∀ i, slotOfByte r.slot = some i → (s.slots.get i).kind.isCrusher = false) → Refuses s c r .badSlot)
      ∧ (onFeeder → (∀ i, slotOfByte r.slot = some i → (s.slots.get i).kind ≠ .feeder) → Refuses s c r .badSlot)
      ∧ ∀ i, slotOfByte r.slot = some i →
        let x := s.slots.get i
        ((onCrusher ∧ x.kind.isCrusher = true) ∨ (onFeeder ∧ x.kind = .feeder) → x.holder ≠ some r.port →
            Refuses s c r (s.awayReason r.port i))
          ∧ (c ∈ [.setGap, .stepGap, .recallGap, .calibrate] → x.kind.isCrusher = true → x.holder = some r.port →
            (x.lockout.state = true → Refuses s c r .lockout)
              ∧ (x.lockout.state = false → s.lineStop.state = true → Refuses s c r .lineStop)
              ∧ (x.lockout.state = false → s.lineStop.state = false → s.held i = true → Refuses s c r .holdSpan)
              ∧ (c ≠ .calibrate → Unbarred s i → (∃ b, x.crusher.motion = .blocked b) → Refuses s c r .blocked))

/-- TAKE, for every slot of its set at once: the first test that fails gives the slot's reason, the others pass to the sender, each slot
that had no holder with an AUTHORITY notice; the reply is DONE, PARTIAL or REFUSED (R118, R121; the check of the SLOT byte, log 10; the
empty payload of a TAKE refused as a whole, log 40). -/
def Obligations.TakeGrantsSlots : Prop :=
  ∀ (s : State) (r : Request), Taken s .take r →
    let l := slotIds.filter (fun i => (byteAt r.payload 0).getLsbD i.val)
    let why := fun (i : SlotId) =>
      let x := s.slots.get i
      if x.kind = .unused then some Reason.badSlot
      else if (s.localStation i).any (fun q => q != r.port) then some .localMode
      else if r.port ≠ .plant ∧ x.area.station ≠ some r.port then some .area
      else if x.holder ≠ none ∧ x.holder ≠ some r.port then some .authority
      else none
    let good := l.filter (fun i => (why i).isNone)
    let bad := l.filterMap (fun i => (why i).map (fun k => (i, k)))
    let verdict : Disposition × Reason := match bad with
      | [] => (.done, .noReason)
      | (_, k) :: _ => if good = [] then (.refused, k) else (.partialDone, .noReason)
    (r.slot ≠ 0xFF → Refuses s .take r .badSlot)
      ∧ (r.slot = 0xFF → l = [] → Refuses s .take r .badValue)
      ∧ (r.slot = 0xFF → l ≠ [] →
        exec (.take r) s = .next
          ((({ s with slots := PerSlot.of (fun i =>
                if i ∈ good then { s.slots.get i with holder := some r.port } else s.slots.get i) }).withReply
              .take r verdict.1 verdict.2 (.slots (SlotSet.ofList good) bad)).announce
            ((good.filter (fun i => (s.slots.get i).holder = none)).map
              (fun i => ⟨s.lineClock, some i, .authority none (some r.port) .take⟩))))

/-- RELEASE gives up, and HAND hands on, every slot of the set that passes its tests, with an AUTHORITY notice each; a slot that the
sender does not hold is passed over by RELEASE and refused by HAND. Stated where none of the slots has work of the sender; what becomes
of that work is `HandoverKeepsTheMove` (R118, R122, R123; the REASON of a REFUSED RELEASE is deduced, log 31; the empty payload of a HAND
refused as a whole, log 40). -/
def Obligations.ReleaseAndHandMoveTheHolder : Prop :=
  ∀ (s : State) (r : Request), r.slot = 0xFF →
    let l := slotIds.filter (fun i => (byteAt r.payload 0).getLsbD i.val)
    let after := fun (good : List SlotId) (h : Option Port) =>
      { s with slots := PerSlot.of (fun i => if i ∈ good then { s.slots.get i with holder := h } else s.slots.get i) }
    let told := fun (good : List SlotId) (h : Option Port) (cause : AuthCause) =>
      good.map (fun i => (⟨s.lineClock, some i, .authority (some r.port) h cause⟩ : Notice))
    let verdict := fun (good : List SlotId) (bad : List (SlotId × Reason)) => match bad with
      | [] => (Disposition.done, Reason.noReason)
      | (_, k) :: _ => if good = [] then (.refused, k) else (.partialDone, .noReason)
    l ≠ [] → (∀ i ∈ l, NoWorkOf s i r.port) →
      (Taken s .release r →
          let mine := l.filter (fun i => (s.slots.get i).holder = some r.port)
          let good := mine.filter (fun i => s.localStation i ≠ some r.port)
          let bad := (mine.filter (fun i => s.localStation i = some r.port)).map (fun i => (i, Reason.localMode))
          exec (.release r) s = .next (((after good none).withReply .release r (verdict good bad).1 (verdict good bad).2
            (.slots (SlotSet.ofList good) bad)).announce (told good none .release)))
        ∧ (Taken s .hand r →
          ((∀ q, Port.ofByte (byteAt r.payload 1) = some q → q = r.port ∨ s.enabled q = false) → Refuses s .hand r .badValue)
            ∧ ∀ q, Port.ofByte (byteAt r.payload 1) = some q → q ≠ r.port → s.enabled q = true →
              let why := fun (i : SlotId) =>
                let x := s.slots.get i
                if x.kind = .unused then some Reason.badSlot
                else if (s.localStation i).isSome then some .localMode
                else if x.holder ≠ some r.port then some .authority
                else if q ≠ .plant ∧ x.area.station ≠ some q then some .area
                else none
              let good := l.filter (fun i => (why i).isNone)
              let bad := l.filterMap (fun i => (why i).map (fun k => (i, k)))
              exec (.hand r) s = .next (((after good (some q)).withReply .hand r (verdict good bad).1 (verdict good bad).2
                (.slots (SlotSet.ofList good) bad)).announce (told good (some q) .hand)))

/-- A holder that gives up a slot loses its queued entries there and keeps those of others; a move of its own in flight is SUSPENDED with
cause HANDOVER, its remaining time kept and the drive at HOLD; another's move goes on (R48, R122, R125). -/
def Obligations.HandoverKeepsTheMove : Prop :=
  ∀ (s : State) (r : Request) (i : SlotId), Taken s .release r → r.slot = 0xFF →
    slotIds.filter (fun i => (byteAt r.payload 0).getLsbD i.val) = [i] → (s.slots.get i).holder = some r.port → s.localStation i ≠ some r.port →
    let x := s.slots.get i
    let c := x.crusher
    ∃ t, exec (.release r) s = .next t
      ∧ (t.slots.get i).holder = none
      ∧ (t.slots.get i).crusher.queue = c.queue.filter (fun e => e.origin != .port r.port)
      ∧ ((∀ m, c.move = some m → m.entry.origin ≠ .port r.port) →
          (t.slots.get i).crusher = { c with queue := (t.slots.get i).crusher.queue })
      ∧ (∀ m, c.move = some m → m.entry.origin = .port r.port →
          (c.motion = .draining ∨ c.motion = .moving ∨ c.motion = .settling →
              (t.slots.get i).crusher =
                  { c with queue := (t.slots.get i).crusher.queue, motion := .suspended, travel := none, settle := none,
                           drainLimit := none, fixedDrain := none, suspension := some (s.clock + x.cp.suspLimit * 1000),
                           move := some { m with causes := { m.causes with handover := true },
                                                 returnTo := if c.motion = Motion.draining then ReturnTo.draining else .moving,
                                                 remaining := (s.remaining c.travel).getD 0 } }
                ∧ (t.slots.get i).driver.cmd = .hold ∧ (t.slots.get i).driver.out = none)
            ∧ (c.motion = .suspended ∨ c.motion = .relief ∨ c.motion = .recovering →
              (t.slots.get i).crusher =
                { c with queue := (t.slots.get i).crusher.queue,
                         move := some { m with causes := { m.causes with handover := true } } }))
      ∧ (s.change = none → ∀ j, j ≠ i → t.slots.get j = s.slots.get j)
      ∧ OnlyWork ((s.countRequest r.port).modSlot i (fun x => { x with holder := none })) t

/-- A station's selector: at LOCAL every slot of its area passes to the station, at REMOTE each of them that the station holds passes to
nobody, and the other slots keep their holders (R124). -/
def Obligations.SelectorsMoveTheArea : Prop :=
  ∀ (s : State) (p : Port) (k : DiscreteInput) (d : Nat),
    (k = .selectorA ∧ p = .stnA) ∨ (k = .selectorB ∧ p = .stnB) →
    s.phase = .running → (s.discrete k).timer = some d → (s.discrete k).raw ≠ (s.discrete k).state →
    ∃ t, exec (.debounceExpiry k) s = .next t
      ∧ t.discrete k = ⟨(s.discrete k).raw, (s.discrete k).raw, none⟩
      ∧ (∀ i, (t.slots.get i).holder =
          if (s.slots.get i).area.station = some p then
            if (s.discrete k).raw = true then some p
            else if (s.slots.get i).holder = some p then none else (s.slots.get i).holder
          else (s.slots.get i).holder)
      ∧ OnlyWork { s.setDiscrete k ⟨(s.discrete k).raw, (s.discrete k).raw, none⟩ with
          slots := PerSlot.of (fun i => { s.slots.get i with holder := (t.slots.get i).holder }) } t

/-- SET_HOLD sets the hold span record and answers with it and its held set; a span holds its anchor and the slots beyond it in its
direction, or with the complement flag the others; an anchor that is no slot and a direction code above 1 are BAD_VALUE (R128, R129; the
codes of the direction and the flag, log 9; BAD_VALUE for a form byte that is no form is deduced, log 10). Stated where the change lets no
crusher start. -/
def Obligations.SetHoldHoldsTheSpan : Prop :=
  (∀ (s : State) (r : Request), Taken s .setHold r → r.slot = 0xFF →
      (r.port ≠ .plant → Refuses s .setHold r .authority)
        ∧ (r.port = .plant →
          (byteAt r.payload 0 ≠ 0 → byteAt r.payload 0 ≠ 1 → Refuses s .setHold r .badValue)
            ∧ (byteAt r.payload 0 = 1 → 8 ≤ (byteAt r.payload 1).toNat ∨ 2 ≤ (byteAt r.payload 2).toNat →
              Refuses s .setHold r .badValue)
            ∧ ((∀ i, (s.slots.get i).kind.isCrusher = true → NothingToStart (s.slots.get i)) →
              (byteAt r.payload 0 = 0 →
                  exec (.setHold r) s = .next ({ s with hold := none }.withReply .setHold r .done .noReason (.hold none 0)))
                ∧ ∀ a, byteAt r.payload 0 = 1 → slotOfByte (byteAt r.payload 1) = some a → (byteAt r.payload 2).toNat ≤ 1 →
                  let h : Hold := ⟨a, byteAt r.payload 2 == 1, byteAt r.payload 3 != 0⟩
                  exec (.setHold r) s = .next ({ s with hold := some h }.withReply .setHold r .done .noReason
                    (.hold (some h) { s with hold := some h }.heldSet)))))
    ∧ ∀ (s : State) (h : Hold) (i : SlotId), s.hold = some h →
      s.heldSet.getLsbD i.val = s.held i
        ∧ (s.held i = true ↔ ((if h.down = true then h.anchor ≤ i else i ≤ h.anchor) ↔ h.complement = false))

/-! ### Inputs of the line (R53, R54, R104, R127) -/

/-- The line stop takes every RUNNING feeder to STOPPED and leaves FAULT as it is; while it is asserted START_FEED and START_LINE are
refused; its release restarts no feeder (R104). -/
def Obligations.LineStopStopsTheFeeders : Prop :=
  ∀ (s : State) (d : Nat), s.phase = .running → s.lineStop.timer = some d →
    (s.lineStop.raw = true → s.lineStop.state = false →
        ∃ t, exec (.debounceExpiry .lineStop) s = .next t ∧ OnlyWork { s with lineStop := ⟨true, true, none⟩ } t
          ∧ ∀ i, (s.slots.get i).kind = .feeder →
            let f := (s.slots.get i).feeder
            let f' := (t.slots.get i).feeder
            (f.run = .running →
                f'.run = .stopped ∧ f'.r = 0 ∧ f'.rPrev = 0 ∧ f'.seed = true ∧ f'.regTimer = none ∧ f'.confirmTimer = none)
              ∧ (f.run = .fault → f'.run = .fault))
      ∧ (s.lineStop.raw = false → s.lineStop.state = true →
        ∃ t, exec (.debounceExpiry .lineStop) s = .next t ∧ OnlyWork { s with lineStop := ⟨false, false, none⟩ } t
          ∧ ∀ i, (t.slots.get i).feeder.run = (s.slots.get i).feeder.run)
      ∧ (s.lineStop.state = true → ∀ r : Request,
        (∀ i, OnFeeder s .startFeed r i → (s.slots.get i).lockout.state = false → Refuses s .startFeed r .lineStop)
          ∧ (Taken s .startLine r → r.slot = 0xFF → r.port = .plant → Refuses s .startLine r .lineStop))

/-- The line stop suspends the moves of every crusher, joins the cause set of those suspended or within a relief episode, and ends
calibrations; it leaves the queues as they are (R48, R53, R94). -/
def Obligations.LineStopSuspendsTheMoves : Prop :=
  ∀ (s : State) (d : Nat), MotionLaw s → s.phase = .running → s.lineStop.timer = some d → s.lineStop.raw = true →
    s.lineStop.state = false →
    ∃ t, exec (.debounceExpiry .lineStop) s = .next t ∧ OnlyWork { s with lineStop := ⟨true, true, none⟩ } t
      ∧ ∀ i, (s.slots.get i).kind.isCrusher = true →
        let c := (s.slots.get i).crusher
        let x' := t.slots.get i
        let c' := x'.crusher
        (c.motion = .draining ∨ c.motion = .moving ∨ c.motion = .settling →
            c'.motion = .suspended ∧ x'.driver.cmd = .hold ∧ x'.driver.out = none ∧ c'.travel = none ∧ c'.settle = none
              ∧ c'.drainLimit = none ∧ c'.fixedDrain = none ∧ c'.queue = c.queue
              ∧ c'.suspension = some (max s.clock d + (s.slots.get i).cp.suspLimit * 1000)
              ∧ c'.move = c.move.map (fun m =>
                  { m with causes := { m.causes with lineStop := true },
                           returnTo := if c.motion = Motion.draining then ReturnTo.draining else .moving,
                           remaining := ((s.reach d).remaining c.travel).getD 0 }))
          ∧ (c.motion = .suspended ∨ c.motion = .relief ∨ c.motion = .recovering →
            c' = { c with move := c.move.map (fun m => { m with causes := { m.causes with lineStop := true } }) })
          ∧ (c.motion = .calibrating → c'.cal = none ∧ x'.driver.cmd = .hold
              ∧ c'.motion = if c.wearBlock then .blocked .wearLimit else .idle)
          ∧ (c.motion = .idle ∨ (∃ b, c.motion = .blocked b) → c' = c)

/-- A crusher's lockout input ends all motion work of the slot, empties its queue, abandons a relief episode, stops the restart delay and
holds the linked feeder at 0, of which one FEEDER_STATE notice tells, with the state after the event; its release lowers LOCKOUT, raises
RELIEF again where the abandoned episode still stands, and is a start check. A feeder's own lockout input takes it to STOPPED, with its notice, and its release changes nothing else (R52, R54, R72, R74, R94,
R106, R117). -/
def Obligations.LockoutEndsMotionWork : Prop :=
  (∀ (s : State) (i : SlotId) (d : Nat), MotionLaw s → FeedLaw s → s.phase = .running → (s.slots.get i).kind.isCrusher = true →
     let x := s.slots.get i
     let c := x.crusher
     (x.lockout = ⟨true, false, some d⟩ →
         ∃ t, exec (.debounceExpiry (.lockout i)) s = .next t
           ∧ (t.slots.get i).lockout = ⟨true, true, none⟩
           ∧ (t.slots.get i).driver.cmd = .hold ∧ (t.slots.get i).driver.out = none
           ∧ (let c' := (t.slots.get i).crusher
             c'.move = none ∧ c'.cal = none ∧ c'.queue = [] ∧ c'.restart = none ∧ c'.tf = c.tf ∧ c'.stack = c.stack ∧ c'.w = c.w
               ∧ c'.history = c.history
               ∧ c'.motion = (match c.motion with
                   | .blocked b => .blocked b
                   | .relief => .relief
                   | .recovering => if c.wearBlock then .blocked .wearLimit else .idle
                   | _ => .idle)
               ∧ (c.motion = .relief → ∃ e ∈ c'.episode, e.abandoned = true)
               ∧ (c.motion = .recovering → c'.episode = none))
           ∧ OnLinked t i (fun f => f.inhibits.lockout = true ∧ f.r = 0)
           ∧ (s.change = none → OnlyCrusher (s.setDiscrete (.lockout i) ⟨true, true, none⟩) t i)
           ∧ (∀ f q, x.cp.linkedFeeder = some f → (s.slots.get f).feeder.inhibits.lockout = false → s.change = none →
             c.queue.length ≤ 4 → s.enabled q = true → (s.ports.get q).subs = NoticeSet.every → (s.ports.get q).notices.length ≤ 8 →
             ∃ n, (t.ports.get q).notices.filter (·.isFeederState f)
                 = (s.ports.get q).notices.filter (·.isFeederState f) ++ [n]
               ∧ ∃ cause, n.body = .feederState (t.slots.get f).feeder.run (t.slots.get f).feeder.inhibits 0 cause))
       ∧ (x.lockout = ⟨false, true, some d⟩ →
         ∃ t, exec (.debounceExpiry (.lockout i)) s = .next t
           ∧ (t.slots.get i).lockout = ⟨false, false, none⟩
           ∧ OnLinked t i (fun f => f.inhibits.lockout = false)
           ∧ (c.motion = .relief → OnLinked t i (fun f => f.inhibits.relief = true ∧ f.r = 0))
           ∧ (c.motion ≠ .relief → ∀ f, x.cp.linkedFeeder = some f →
             (t.slots.get f).feeder.inhibits.relief = (s.slots.get f).feeder.inhibits.relief)
           ∧ (NothingToStart x → (t.slots.get i).crusher = c ∧ (t.slots.get i).driver = x.driver)
           ∧ (s.change = none → OnlyCrusher (s.setDiscrete (.lockout i) ⟨false, false, none⟩) t i)))
    ∧ ∀ (s : State) (i : SlotId) (d : Nat), s.phase = .running → (s.slots.get i).kind = .feeder →
      let x := s.slots.get i
      let f := x.feeder
      let turned := fun (b : Bool) => (s.reach d).setDiscrete (.lockout i) ⟨b, b, none⟩
      (x.lockout = ⟨true, false, some d⟩ →
          (f.run = .stopped → exec (.debounceExpiry (.lockout i)) s = .next (turned true))
            ∧ (f.run ≠ .stopped →
              exec (.debounceExpiry (.lockout i)) s = .next (((turned true).modSlot i (fun x => { x with feeder :=
                { f with run := .stopped, r := 0, rPrev := 0, seed := true, regTimer := none, confirmTimer := none } })).announce
                  [⟨max s.clock d / 1000, some i, .feederState .stopped f.inhibits 0 .lockout⟩])))
        ∧ (x.lockout = ⟨false, true, some d⟩ → exec (.debounceExpiry (.lockout i)) s = .next (turned false))

/-! ### Move queues (R30 to R40, R57, R58) -/

/-- A priority entry joins behind every priority entry and ahead of every other, any other entry at the tail, and the entries present keep
their order (R36, R37). The recall stack, newest first: a push puts its entry in front, and drops the oldest only where no place is left;
a pop takes the newest off and leaves the others; and the depth counts the entries (R57). -/
def Obligations.EntriesAndRecallsKeepTheirOrder : Prop :=
  (∀ (a b : List Entry) (e : Entry), (∀ x ∈ a, x.priority = true) → (∀ x ∈ b, x.priority = false) →
     insertEntry (a ++ b) e = if e.priority = true then a ++ e :: b else a ++ b ++ [e])
    ∧ (∀ (k : RecallStack) (e : RecallEntry),
         (k.push e).newestFirst = e :: (if (k.place (k.top + 1)).isSome then k.newestFirst.dropLast else k.newestFirst)
           ∧ (∀ o, k.place k.top = some o → k.newestFirst = o :: k.pop.newestFirst ∧ k.depth = k.pop.depth + 1)
           ∧ k.depth = k.newestFirst.length
           ∧ (k.place (k.top + 1) = none → (k.push e).pop.newestFirst = k.newestFirst ∧ (k.push e).depth = k.depth + 1))

/-- On a slot that is neither IDLE nor BLOCKED, with room in its queue, SET_GAP, STEP_GAP and RECALL queue their entry and change nothing
else; QUEUE_NEAR warns from NEAR_FULL on; a gap outside the envelope is clamped and recorded where ENVELOPE is masked, else refused
(R30, R31, R35, R36, R40, R58). -/
def Obligations.BusySlotQueuesTheMove : Prop :=
  ∀ (s : State) (r : Request) (i : SlotId),
    let x := s.slots.get i
    let c := x.crusher
    let n := c.queue.length + 1
    let near := fun (k : Reason) => if n ≥ x.cp.nearFull then Reason.queueNear else k
    let joined := fun (e : Entry) (st : RecallStack) =>
      s.modSlot i (fun x => { x with crusher := { x.crusher with queue := insertEntry x.crusher.queue e, stack := st } })
    Unbarred s i → c.motion ≠ .idle → (∀ b, c.motion ≠ .blocked b) → n ≤ 4 →
      (OnCrusher s .setGap r i →
          let g := wordAt r.payload 0
          (4095 < g → Refuses s .setGap r .badValue)
            ∧ (x.cp.envMin ≤ g → g ≤ x.cp.envMax → g ≤ 4095 →
              exec (.setGap r) s = .next ((joined (s.entryFor .setGap r .set g (some g) false) c.stack).withReply
                .setGap r .queued (near .noReason) (.entry g false n)))
            ∧ (g < x.cp.envMin ∨ x.cp.envMax < g → g ≤ 4095 →
              (x.mask.mem .envelope = false → Refuses s .setGap r .envelope)
                ∧ (x.mask.mem .envelope = true →
                  let g' := if g < x.cp.envMin then x.cp.envMin else x.cp.envMax
                  let s' := (joined (s.entryFor .setGap r .set g (some g') true) c.stack).modSlot i
                    (fun x => { x with conds := x.conds.insert .envelope })
                  let y := s'.slots.get i
                  exec (.setGap r) s = .next ((s'.withReply .setGap r .queued (near .envelope) (.entry g' true n)).announce
                    (if x.conds.mem .envelope then []
                     else [⟨s.lineClock, some i, .condition .envelope (some true) y.conds (some y.summary) s'.lineSummary⟩])))))
        ∧ (OnCrusher s .stepGap r i →
          let k := signedAt r.payload 0
          (k < -500 ∨ 500 < k → Refuses s .stepGap r .badValue)
            ∧ (-500 ≤ k → k ≤ 500 →
              exec (.stepGap r) s = .next ((joined (s.entryFor .stepGap r .step k none false) c.stack).withReply
                .stepGap r .queued (near .noReason) (.entry k false n))))
        ∧ (OnCrusher s .recallGap r i →
          (c.stack.place c.stack.top = none → Refuses s .recallGap r .empty)
            ∧ ∀ o, c.stack.place c.stack.top = some o →
              (x.cp.envMin ≤ o.gap → o.gap ≤ x.cp.envMax →
                  exec (.recallGap r) s = .next ((joined (s.entryFor .recallGap r .set o.gap (some o.gap) false) c.stack.pop).withReply
                    .recallGap r .queued (near .noReason) (.entry o.gap false n)))
                ∧ (o.gap < x.cp.envMin ∨ x.cp.envMax < o.gap → x.mask.mem .envelope = false →
                  Refuses s .recallGap r .envelope))

/-- SET_GAP, STEP_GAP and RECALL into a full queue: refused QUEUE_FULL, with nothing changed, without the priority flag or where all four
entries have it, so that the entry a RECALL would pop stays on the recall stack; else the newest non-priority entry ends
DISCARDED(QUEUE_FULL), with its final reply ahead of the immediate reply, and an accepted RECALL has popped its entry (R37, R38, R39, R57,
R58). -/
def Obligations.FullQueueMakesRoomForPriority : Prop :=
  ∀ (s : State) (r : Request) (i : SlotId), Unbarred s i →
    let x := s.slots.get i
    let c := x.crusher
    let full := fun (code : ReqCode) (e : Entry) (value : Int) (stack : RecallStack) =>
      (r.priority = false ∨ (∀ e ∈ c.queue, e.priority = true) → Refuses s code r .queueFull)
        ∧ ∀ a old b, r.priority = true → c.queue = a ++ old :: b → old.priority = false → (∀ e ∈ b, e.priority = true) →
          ∃ t, exec (code.command r) s = .next t
            ∧ (t.slots.get i).crusher = { c with queue := insertEntry (a ++ b) e, stack := stack }
            ∧ (t.slots.get i).driver = x.driver
            ∧ (s.change = none → OnlyCrusher (s.countRequest r.port) t i
                ∧ ((s.ports.get r.port).tx.length + 2 ≤ 64 →
                  (t.ports.get r.port).tx = (s.ports.get r.port).tx ++ old.finalTo i r.port .discarded .queueFull .empty
                    ++ [⟨code.code, .queued, if 4 ≥ x.cp.nearFull then .queueNear else .noReason, r.tag,
                        (s.ports.get r.port).reqno + 1, r.slot, .entry value false 4⟩]))
    c.motion ≠ .idle → (∀ b, c.motion ≠ .blocked b) → c.queue.length = 4 →
      (OnCrusher s .setGap r i →
          let g := wordAt r.payload 0
          x.cp.envMin ≤ g → g ≤ x.cp.envMax → g ≤ 4095 → full .setGap (s.entryFor .setGap r .set g (some g) false) g c.stack)
        ∧ (OnCrusher s .stepGap r i →
          let k := signedAt r.payload 0
          (-500 : Int) ≤ k → k ≤ 500 → full .stepGap (s.entryFor .stepGap r .step k none false) k c.stack)
        ∧ (OnCrusher s .recallGap r i → ∀ o, c.stack.place c.stack.top = some o → x.cp.envMin ≤ o.gap → o.gap ≤ x.cp.envMax →
          full .recallGap (s.entryFor .recallGap r .set o.gap (some o.gap) false) o.gap c.stack.pop)

/-! ### The motion cycle (R42 to R51) -/

/-- SET_GAP on an IDLE cone with an empty queue and a target in reach starts at once: STARTED, the move record with its target, the travel
timer, and the drive toward the target, or SETTLING where it stands within DB (R36, R41, R42, R44, R45). A JAW first waits in DRAINING with
DRAIN on its linked feeder; the drive goes on once the fixed-drain timer expires, or a cavity level of at most CAV_EMPTY is read (R42 to
R44). -/
def Obligations.IdleCrushersStartTheMove : Prop :=
  (∀ (s : State) (r : Request) (i : SlotId) (pt p : Nat), OnCrusher s .setGap r i → Unbarred s i →
     let x := s.slots.get i
     let c := x.crusher
     let g := wordAt r.payload 0
     x.kind = .cone → c.motion = .idle → c.queue = [] → c.wearBlock = false → r.staged = false →
       x.cp.envMin ≤ g → g ≤ x.cp.envMax → g ≤ 4095 → targetFor x.cp c.z c.w (x.mask.mem .reach) g = ⟨some pt, false⟩ →
       x.position.valid = true → x.position.last = some p →
       let m : MoveRec := ⟨s.entryFor .setGap r .set g (some g) false, some g, pt, none, .moving, .zero, 0⟩
       let run := { c with move := some m, travel := some (s.clock + x.cp.travel * 1000) }
       let reply := fun (t : State) => nextState (t.withReply .setGap r .started .noReason (.entry g false 0))
       (∀ d, toward p pt x.cp.db = .drive d →
           exec (.setGap r) s = reply (s.modSlot i (fun x =>
             { x with crusher := { run with motion := .moving } }.command s.clock
               (x.moveCommand p pt d))))
         ∧ (toward p pt x.cp.db = .arrived →
           exec (.setGap r) s = reply (s.modSlot i (fun x =>
             { x with crusher := { run with motion := .settling, settle := some (s.clock + x.cp.settle) } }.command s.clock .hold))))
    ∧ (∀ (s : State) (i : SlotId),
         let x := s.slots.get i
         let c := x.crusher
         (∀ (r : Request) (pt : Nat), OnCrusher s .setGap r i → Unbarred s i → x.kind = .jaw → c.motion = .idle → c.queue = [] →
             c.wearBlock = false → r.staged = false → x.cavityEmpty = false →
             let g := wordAt r.payload 0
             x.cp.envMin ≤ g → g ≤ x.cp.envMax → g ≤ 4095 → targetFor x.cp c.z c.w (x.mask.mem .reach) g = ⟨some pt, false⟩ →
             ∃ t, exec (.setGap r) s = .next t
               ∧ (t.slots.get i).crusher =
                   { c with motion := .draining, travel := some (s.clock + x.cp.travel * 1000),
                            drainLimit := some (s.clock + x.cp.drainLimit * 1000),
                            fixedDrain := if x.cp.levelIn then none else some (s.clock + x.cp.drainFixed * 1000),
                            move := some ⟨s.entryFor .setGap r .set g (some g) false, some g, pt, none, .moving, .zero, 0⟩ }
               ∧ (t.slots.get i).driver = x.driver
               ∧ OnLinked t i (fun f => f.inhibits.drain = true) ∧ (FeedLaw s → OnLinked t i (fun f => f.r = 0))
               ∧ (t.ports.get r.port).tx = (s.ports.get r.port).tx
                   ++ [⟨ReqCode.setGap.code, .started, .noReason, r.tag, (s.ports.get r.port).reqno + 1, r.slot, .entry g false 0⟩]
               ∧ OnlyCrusher (s.countRequest r.port) t i)
           ∧ ∀ m p d, s.phase = .running → c.motion = .draining → c.move = some m → x.position.valid = true →
             x.position.last = some p → toward p m.target x.cp.db = .drive d →
             let go := fun (x : Slot) (now : Nat) =>
               { x with crusher := { x.crusher with motion := .moving, drainLimit := none, fixedDrain := none } }.command now
                 (x.moveCommand p m.target d)
             (∀ e, c.fixedDrain = some e →
                 exec (.fixedDrainExpiry i) s = .next ((s.reach e).modSlot i (fun x => go x (max s.clock e))))
               ∧ ∀ raw : BitVec 12, x.kind = .jaw → x.cp.levelIn = true → 575 ≤ raw.toNat → raw.toNat ≤ 3356 →
                 scaled 1000 raw.toNat ≤ x.cp.cavEmpty →
                 let s' := s.reachSample x.level.sampledAt 50
                 exec (.analogSample (.level i) raw) s = .next (s'.modSlot i (fun x =>
                   go { x with level := ⟨true, scaled 1000 raw.toNat, some s'.clock⟩ } s'.clock)))

/-- A position sample: start bit, even parity and a clear status make it good; the value follows SENSE; two bad samples in a row leave the
channel VALID and the third makes it INVALID, with the last valid position kept (R163, R164); a slot in IDLE or BLOCKED does no more than
re-test its driver. In MOVING a valid reading commands the drive toward the target, SLOW within SLOW_BAND, or ends in SETTLING within DB;
a reading that becomes invalid suspends the move with cause SENSOR where POSITION_INVALID is masked, else fails it (R44, R45, R47, R48).
The count of bad samples of a channel that is INVALID already is the model's choice (log 17). -/
def Obligations.PositionSamplesSteerTheMove : Prop :=
  (∀ (s : State) (i : SlotId) (a : PositionAnswer),
     let x := s.slots.get i
     let c := x.position
     let s' := s.reachSample c.sampledAt 20
     let now := some s'.clock
     let p := if x.cp.inverted = true then 16383 - a.bits.toNat else a.bits.toNat
     let heard := fun (ch : PosChannel) => nextState
       (s'.modSlot i (fun x => { x with position := ch, driver := x.driver.settle s'.clock ch }))
     let kept := fun (ch : PosChannel) => nextState (s'.modSlot i (fun x => { x with position := ch }))
     (a.good = true ↔ a.start = true ∧ (ones a.bits + if a.parity then 1 else 0) % 2 = 0 ∧ a.status = false)
       ∧ (s.phase = .running → x.kind.isCrusher = true → x.crusher.motion = .idle ∨ (∃ b, x.crusher.motion = .blocked b) →
         exec (.positionSample i a) s =
           if a.good = true then heard ⟨true, 0, some p, now⟩
           else if c.valid = false then kept ⟨false, min (c.bad + 1) 3, c.last, now⟩
           else if c.bad < 2 then kept ⟨true, c.bad + 1, c.last, now⟩
           else heard ⟨false, 3, c.last, now⟩)
       ∧ (s.phase = .off ∨ x.kind.isCrusher = false → exec (.positionSample i a) s = .next s))
    ∧ (∀ (s : State) (i : SlotId) (a : PositionAnswer) (m : MoveRec),
         let x := s.slots.get i
         let c := x.crusher
         let s' := s.reachSample x.position.sampledAt 20
         let now := s'.clock
         s.phase = .running → x.kind.isCrusher = true → c.motion = .moving → c.move = some m →
           (a.good = true →
               let p := a.position x.cp.inverted
               let seen := fun (x : Slot) =>
                 let ch : PosChannel := ⟨true, 0, some p, some now⟩
                 { x with position := ch, driver := x.driver.settle now ch }
               (∀ d, toward p m.target x.cp.db = .drive d →
                   exec (.positionSample i a) s = .next (s'.modSlot i (fun x =>
                     (seen x).command now (x.moveCommand p m.target d))))
                 ∧ (toward p m.target x.cp.db = .arrived →
                   exec (.positionSample i a) s = .next (s'.modSlot i (fun x =>
                     { (seen x).command now .hold with
                       crusher := { x.crusher with motion := .settling, settle := some (now + x.cp.settle) } }))))
             ∧ (a.good = false → x.position.valid = true → x.position.bad = 2 → x.mask.mem .positionInvalid = true ∨ Quiet x →
               ∃ t, exec (.positionSample i a) s = .next t
                 ∧ (t.slots.get i).position = ⟨false, 3, x.position.last, some now⟩
                 ∧ (t.slots.get i).conds = x.conds.insert .positionInvalid
                 ∧ (s.change = none →
                   OnlyCrusher (s.modSlot i (fun x => { x with position := ⟨false, 3, x.position.last, some now⟩ })) t i)
                 ∧ (t.slots.get i).driver.cmd = .hold ∧ (t.slots.get i).driver.out = none
                 ∧ (x.mask.mem .positionInvalid = true →
                   (t.slots.get i).crusher =
                     { c with motion := .suspended, travel := none, settle := none, drainLimit := none, fixedDrain := none,
                              suspension := some (now + x.cp.suspLimit * 1000),
                              move := some { m with causes := { m.causes with sensor := true }, returnTo := .moving,
                                                    remaining := (s'.remaining c.travel).getD 0 } })
                 ∧ (x.mask.mem .positionInvalid = false →
                   (t.slots.get i).crusher =
                     { c with motion := .idle, move := none, travel := none, settle := none, suspension := none, drainLimit := none,
                              fixedDrain := none })))

/-- SUSPEND in a move stops the drive and the timers, keeps the time left and records where the move returns to; in SUSPENDED it joins
the causes; in any other state it is refused NOT_ACTIVE. Lockout, the line stop and the hold span do not refuse it (R49). -/
def Obligations.SuspendKeepsTheMove : Prop :=
  ∀ (s : State) (r : Request), Taken s .suspend r →
    ((∀ i, slotOfByte r.slot = some i → (s.slots.get i).kind.isCrusher = false) → Refuses s .suspend r .badSlot)
      ∧ ∀ i, slotOfByte r.slot = some i →
        let x := s.slots.get i
        let c := x.crusher
        let asked := fun (m : MoveRec) => { m with causes := { m.causes with request := true } }
        (x.kind.isCrusher = true → x.holder ≠ some r.port →
            Refuses s .suspend r (s.awayReason r.port i))
          ∧ (OnCrusher s .suspend r i →
            (c.motion = .draining ∨ c.motion = .moving ∨ c.motion = .settling →
                exec (.suspend r) s = .next ((s.modSlot i (fun x =>
                  { x with crusher :=
                    { c with motion := .suspended, travel := none, settle := none, drainLimit := none, fixedDrain := none,
                             suspension := some (s.clock + x.cp.suspLimit * 1000),
                             move := c.move.map (fun m =>
                               { asked m with returnTo := if c.motion = Motion.draining then ReturnTo.draining else .moving,
                                              remaining := (s.remaining c.travel).getD 0 }) } }.command s.clock .hold)).withReply
                  .suspend r .done .noReason .empty))
              ∧ (c.motion = .suspended →
                exec (.suspend r) s = .next ((s.modSlot i (fun x =>
                  { x with crusher := { c with move := c.move.map asked } })).withReply .suspend r .done .noReason .empty))
              ∧ (c.motion = .idle ∨ c.motion = .relief ∨ c.motion = .recovering ∨ c.motion = .calibrating
                  ∨ (∃ b, c.motion = .blocked b) → Refuses s .suspend r .notActive))

/-- RESUME takes REQUEST and HANDOVER, and LINE_STOP once released, out of the causes, and the resumer adopts a move that was handed over;
with causes left the reply is PARTIAL and the move waits, with none it goes on with the time it had left: in MOVING, or in SETTLING where it
stands within DB, or in DRAINING with DRAIN raised again. Where it would return to MOVING and the position is invalid, SENSOR joins the causes
and it stays SUSPENDED with POSITION_INVALID masked; unmasked it fails, its final reply behind the immediate reply (R46, R47, R48, R50; that no
condition is recorded there is deduced, log 21, and so is the place of the immediate reply, log 6). -/
def Obligations.ResumeContinuesTheMove : Prop :=
  ∀ (s : State) (r : Request) (i : SlotId), OnCrusher s .resume r i →
    let x := s.slots.get i
    let c := x.crusher
    (c.motion ≠ .suspended → Refuses s .resume r .notSuspended)
      ∧ ∀ m, c.motion = .suspended → c.move = some m →
        let left : Causes := ⟨false, m.causes.sensor, m.causes.lineStop && s.lineStop.state, false⟩
        let adopted := if m.causes.handover = true then
            { m.entry with origin := .port r.port, code := .resume, tag := r.tag, reqno := (s.ports.get r.port).reqno + 1,
                           ack := r.ackWanted, changeId := none }
          else m.entry
        let m' := { m with causes := left, entry := adopted }
        let reply : Reply := ⟨ReqCode.resume.code, .done, .noReason, r.tag, (s.ports.get r.port).reqno + 1, r.slot, .causes .zero⟩
        let onward := { c with move := some m', suspension := none, travel := some (s.clock + m.remaining) }
        (left.sensor = true ∨ left.lineStop = true →
            exec (.resume r) s = .next ((s.modSlot i (fun x =>
              { x with crusher := { c with move := some m' } })).withReply .resume r .partialDone .noReason (.causes left)))
          ∧ (left.sensor = false → left.lineStop = false →
            (m.returnTo = .moving →
                (∀ p, x.position.valid = true → x.position.last = some p →
                    (∀ d, toward p m.target x.cp.db = .drive d →
                        exec (.resume r) s = .next ((s.modSlot i (fun x =>
                          { x with crusher := { onward with motion := .moving } }.command s.clock
                            (x.moveCommand p m.target d))).withReply .resume r .done .noReason (.causes .zero)))
                      ∧ (toward p m.target x.cp.db = .arrived →
                        exec (.resume r) s = .next ((s.modSlot i (fun x =>
                          { x with crusher := { onward with motion := .settling, settle := some (s.clock + x.cp.settle) } }.command
                            s.clock .hold)).withReply .resume r .done .noReason (.causes .zero))))
                  ∧ (x.position.valid = false →
                    (x.mask.mem .positionInvalid = true →
                        let waits : Causes := { left with sensor := true }
                        exec (.resume r) s = .next ((s.modSlot i (fun x =>
                          { x with crusher := { c with move := some { m' with causes := waits } } })).withReply
                            .resume r .partialDone .noReason (.causes waits)))
                      ∧ (x.mask.mem .positionInvalid = false → Quiet x →
                        ∃ t, exec (.resume r) s = .next t
                          ∧ (t.slots.get i).crusher =
                              { c with motion := .idle, move := none, travel := none, settle := none, suspension := none,
                                       drainLimit := none, fixedDrain := none }
                          ∧ (t.slots.get i).driver.cmd = .hold ∧ (t.slots.get i).driver.out = none
                          ∧ (t.slots.get i).conds = x.conds
                          ∧ (x.kind = .jaw → OnLinked t i (fun f => f.inhibits.drain = false))
                          ∧ ((s.ports.get r.port).tx.length + 2 ≤ 64 → (s.ports.get r.port).tx ++ reply ::
                              adopted.finalTo i r.port .failed .sensor (.moveEnded m.applied c.tf) <+: (t.ports.get r.port).tx)
                          ∧ (s.change = none → OnlyCrusher (s.countRequest r.port) t i))))
              ∧ (m.returnTo = .draining → x.cavityEmpty = false →
                ∃ t, exec (.resume r) s = .next t
                  ∧ (t.slots.get i).crusher =
                      { onward with motion := .draining, drainLimit := some (s.clock + x.cp.drainLimit * 1000),
                                    fixedDrain := if x.cp.levelIn then none else some (s.clock + x.cp.drainFixed * 1000) }
                  ∧ (t.slots.get i).driver = x.driver ∧ (t.slots.get i).conds = x.conds
                  ∧ OnLinked t i (fun f => f.inhibits.drain = true) ∧ (FeedLaw s → OnLinked t i (fun f => f.r = 0))
                  ∧ (t.ports.get r.port).tx = (s.ports.get r.port).tx ++ [reply]
                  ∧ OnlyCrusher (s.countRequest r.port) t i))

/-- GO clears the staged marks of the sender's own entries in its slots, or of a change's entries in every slot, and answers DONE;
where it finds none it is refused NOTHING_STAGED. A set that names a crusher the sender does not hold is refused with the reason of R119
(R56). Two things are the model's choice: that reason is the one of the lowest such slot (log 45), and a form byte above 1 is BAD_VALUE (log 10). Stated for slots that are not IDLE, where no start follows. -/
def Obligations.GoClearsStagedMarks : Prop :=
  ∀ (s : State) (r : Request), Taken s .go r → r.slot = 0xFF →
    let cleared := fun (mine : Entry → Bool) (l : List SlotId) =>
      { s with slots := PerSlot.of (fun i =>
          let x := s.slots.get i
          if i ∈ l then
            { x with crusher := { x.crusher with queue := x.crusher.queue.map (fun e => if mine e then { e with staged := false } else e) } }
          else x) }
    let found := fun (mine : Entry → Bool) (i : SlotId) => ∃ e ∈ (s.slots.get i).crusher.queue, mine e = true ∧ e.staged = true
    let outcome := fun (mine : Entry → Bool) (l : List SlotId) =>
      ((∀ i ∈ l, ¬ found mine i) → Refuses s .go r .nothingStaged)
        ∧ ((∃ i ∈ l, found mine i) → (∀ i ∈ l, found mine i → (s.slots.get i).crusher.motion ≠ .idle) →
          exec (.go r) s = .next ((cleared mine l).withReply .go r .done .noReason .empty))
    (1 < (byteAt r.payload 0).toNat → Refuses s .go r .badValue)
      ∧ (byteAt r.payload 0 = 0 →
        let l := slotIds.filter (fun i => (byteAt r.payload 1).getLsbD i.val)
        ((∃ i ∈ l, (s.slots.get i).kind.isCrusher = false) → Refuses s .go r .badSlot)
          ∧ (∀ i, (∀ j ∈ l, (s.slots.get j).kind.isCrusher = true) → FirstNotHeld s r l i → Refuses s .go r (s.awayReason r.port i))
          ∧ ((∀ i ∈ l, (s.slots.get i).kind.isCrusher = true ∧ (s.slots.get i).holder = some r.port) →
            outcome (fun e => e.origin == .port r.port && e.changeId == none) l))
      ∧ (byteAt r.payload 0 = 1 →
        ((∀ c, s.change = some c → c.id ≠ (byteAt r.payload 1).toNat) → Refuses s .go r .badValue)
          ∧ ∀ c, s.change = some c → c.id = (byteAt r.payload 1).toNat →
            (c.origin ≠ r.port → Refuses s .go r .authority)
              ∧ (c.origin = r.port → outcome (fun e => e.changeId == some c.id) slotIds))

/-- FLUSH empties the queue and ends the move in flight; in a relief episode it ends only a move that was suspended; a calibration goes
on; the settings stay. Its reply DONE comes before the final replies (R39, R51, R55, R73; that order is deduced, log 6). -/
def Obligations.FlushClearsPendingWork : Prop :=
  ∀ (s : State) (r : Request) (i : SlotId), OnCrusher s .flush r i →
    let x := s.slots.get i
    let c := x.crusher
    ∃ t, exec (.flush r) s = .next t
      ∧ (let c' := (t.slots.get i).crusher
        c'.queue = [] ∧ c'.tf = c.tf ∧ c'.stack = c.stack ∧ c'.z = c.z ∧ c'.w = c.w ∧ c'.wAtMove = c.wAtMove
          ∧ (c.motion = .idle ∨ c.motion = .calibrating ∨ (∃ b, c.motion = .blocked b) → c' = { c with queue := [] })
          ∧ (c.motion = .draining ∨ c.motion = .moving ∨ c.motion = .settling ∨ c.motion = .suspended → c.move.isSome = true →
            c.wearBlock = false → NoTrim x →
              c' = { c with queue := [], motion := .idle, move := none, travel := none, settle := none, suspension := none,
                            drainLimit := none, fixedDrain := none }
                ∧ (t.slots.get i).driver.cmd = .hold ∧ (t.slots.get i).driver.out = none
                ∧ (x.kind = .jaw → OnLinked t i (fun f => f.inhibits.drain = false)))
          ∧ (c.motion = .relief ∨ c.motion = .recovering →
            (∀ e, c.episode = some e → e.returnTo = .suspended →
                c' = { c with queue := [], move := none,
                              episode := some { e with returnTo := if c.move.isSome then .idle else .suspended } })
              ∧ (∀ e, c.episode = some e → e.returnTo ≠ .suspended → c' = { c with queue := [] })))
      ∧ (s.ports.get r.port).tx ++ [⟨ReqCode.flush.code, .done, .noReason, r.tag, (s.ports.get r.port).reqno + 1, r.slot, .empty⟩]
          <+: (t.ports.get r.port).tx
      ∧ (s.change = none → OnlyCrusher (s.countRequest r.port) t i)

/-- The settle expiry ends a move that stands within DB of its target: T_f, the recall stack, W_at_move, the final reply and the
MOVE_END notice; outside DB the slot is MOVING again (R45, R51, R57). -/
def Obligations.SettlingEndsTheMove : Prop :=
  ∀ (s : State) (i : SlotId) (d p : Nat) (m : MoveRec),
    let x := s.slots.get i
    let c := x.crusher
    let now := max s.clock d
    s.phase = .running → c.motion = .settling → c.settle = some d → c.move = some m → x.position.last = some p →
      (toward p m.target x.cp.db = .arrived → Quiet x →
          let gap := m.entry.kind = .set ∨ m.entry.kind = .step
          let tf := if gap then m.applied.getD c.tf else c.tf
          let disp : Disposition := if m.adjusted = none then .done else .doneAdjusted
          let why := m.adjusted.getD .noReason
          ∃ t, exec (.settleExpiry i) s = .next t
            ∧ (t.slots.get i).crusher =
                { c with motion := .idle, move := none, travel := none, settle := none, suspension := none, drainLimit := none,
                         fixedDrain := none, tf := tf, wAtMove := c.w,
                         stack := if gap then c.stack.push ⟨c.tf, m.entry.origin⟩ else c.stack }
            ∧ (t.slots.get i).driver.cmd = .hold ∧ (t.slots.get i).driver.out = none
            ∧ (t.slots.get i).conds = (if gap ∧ c.stack.depth = 6 then x.conds.insert .historyWrap else x.conds)
            ∧ t.isDirty (.wear i) = true
            ∧ (x.kind = .jaw → OnLinked t i (fun f => f.inhibits.drain = false))
            ∧ (∀ q, s.enabled q = true → (s.ports.get q).tx.length < 64 →
              (s.ports.get q).tx ++ m.entry.finalTo i q disp why (.moveEnded m.applied tf) <+: (t.ports.get q).tx)
            ∧ (∀ q, s.enabled q = true → (s.ports.get q).subs = NoticeSet.every → (s.ports.get q).notices.length ≤ 13 →
              ⟨now / 1000, some i, .moveEnd m.entry.kind disp why m.entry.origin m.entry.tag tf⟩ ∈ (t.ports.get q).notices)
            ∧ (s.change = none → OnlyCrusher s t i))
        ∧ ∀ e, toward p m.target x.cp.db = .drive e → x.position.valid = true →
          exec (.settleExpiry i) s = .next ((s.reach d).modSlot i (fun x =>
            { x with crusher := { c with motion := .moving, settle := none } }.command now
              (x.moveCommand p m.target e)))

/-- The expiries of the travel, suspension and drain-limit timers fail the move: the drive at HOLD, the fault condition recorded, with its
CONDITION notice where the kind was absent, the MOVE_END notice, the final reply, and T_f, W_at_move and the recall stack as they
were (R43, R46, R48, R51). The CONDITION notice comes ahead of MOVE_END: at the travel expiry by R159, at the other two by the model's
choice (log 46). -/
def Obligations.ExpiriesFailTheMove : Prop :=
  ∀ (s : State) (i : SlotId) (d : Nat) (m : MoveRec),
    let x := s.slots.get i
    let c := x.crusher
    let now := max s.clock d / 1000
    let fails := fun (cmd : Instr) (k : Cond) (why : Reason) =>
      ∃ t, exec cmd s = .next t
        ∧ (t.slots.get i).crusher =
            { c with motion := .idle, move := none, travel := none, settle := none, suspension := none, drainLimit := none,
                     fixedDrain := none }
        ∧ (t.slots.get i).driver.cmd = .hold ∧ (t.slots.get i).driver.out = none
        ∧ (t.slots.get i).conds = x.conds.insert k
        ∧ (x.kind = .jaw → OnLinked t i (fun f => f.inhibits.drain = false))
        ∧ (∀ q, s.enabled q = true → (s.ports.get q).tx.length < 64 →
          (s.ports.get q).tx ++ m.entry.finalTo i q .failed why (.moveEnded m.applied c.tf) <+: (t.ports.get q).tx)
        ∧ (∀ q, s.enabled q = true → (s.ports.get q).subs = NoticeSet.every → (s.ports.get q).notices.length ≤ 13 →
          ∃ mid rest, (t.ports.get q).notices = (s.ports.get q).notices
            ++ (if x.conds.mem k then [] else [⟨now, some i, .condition k none (x.conds.insert k) (some .fault) .fault⟩])
            ++ mid ++ ⟨now, some i, .moveEnd m.entry.kind .failed why m.entry.origin m.entry.tag c.tf⟩ :: rest)
        ∧ (s.change = none → OnlyCrusher s t i)
    s.phase = .running → c.move = some m → Quiet x →
      (c.motion = .draining ∨ c.motion = .moving ∨ c.motion = .settling → c.travel = some d →
          fails (.travelExpiry i) .moveTimeout .timeout)
        ∧ (c.motion = .suspended → c.suspension = some d → fails (.suspensionExpiry i) .suspendExpired .suspendExpired)
        ∧ (c.motion = .draining → c.drainLimit = some d → fails (.drainLimitExpiry i) .drainTimeout .drainTimeout)

/-! ### Tramp relief (chapter 4) -/

/-- A relief start on a cone: the time joins the history and a running restart delay stops, with RECOVERY_DELAY lowered. In BLOCKED no more
changes than RELIEF on the linked feeder. In every other state the drive and the timers stop, a calibration ends, and an episode opens or
keeps what it held; RELIEF is raised but under an active lockout, where the episode is abandoned (R63 to R66, R72, R74). -/
def Obligations.ReliefStartsAnEpisode : Prop :=
  ∀ (s : State) (i : SlotId) (d : Nat), MotionLaw s → FeedLaw s → s.phase = .running →
    let x := s.slots.get i
    let c := x.crusher
    let now := max s.clock d
    let history := (if c.history.length = 8 then c.history.tail else c.history) ++ [now / 1000]
    let stays := fun (t : State) => ∀ f, x.cp.linkedFeeder = some f →
      (t.slots.get f).feeder.inhibits.relief = (s.slots.get f).feeder.inhibits.relief
    x.kind = .cone → x.relief = ⟨true, false, some d⟩ → c.history.length ≤ 8 →
      ∃ t, exec (.debounceExpiry (.relief i)) s = .next t
        ∧ (x.lockout.state = false ∨ (∃ b, c.motion = .blocked b) → OnLinked t i (fun f => f.inhibits.relief = true ∧ f.r = 0))
        ∧ (x.lockout.state = true → (∀ b, c.motion ≠ .blocked b) → stays t)
        ∧ (c.restart ≠ none → OnLinked t i (fun f => f.inhibits.recoveryDelay = false))
        ∧ OnlyCrusher (s.setDiscrete (.relief i) ⟨true, true, none⟩) t i
        ∧ ((∃ b, c.motion = .blocked b) →
          (t.slots.get i).crusher = { c with history := history, restart := none }
            ∧ (t.slots.get i).driver = x.driver ∧ (t.slots.get i).conds = x.conds)
        ∧ ((∀ b, c.motion ≠ .blocked b) →
          (t.slots.get i).driver.cmd = .hold ∧ (t.slots.get i).driver.out = none
            ∧ (t.slots.get i).crusher =
              { c with motion := .relief, history := history, travel := none, settle := none, suspension := none,
                       drainLimit := none, fixedDrain := none, restart := none, cal := none,
                       episode := some (match c.episode with
                         | some e => { e with target := none, abandoned := e.abandoned || x.lockout.state }
                         | none => ⟨now / 1000, x.position.last,
                             if c.motion = .moving ∨ c.motion = .settling then .moving
                             else if c.motion = .suspended then .suspended else .idle, none, x.lockout.state⟩) })

/-- A relief end in RELIEF: the history is pruned to the window; with RELIEF_N entries left the cone is BLOCKED(TRAMP_REPEAT), with fewer
it is RECOVERING toward the move's target, or the position before the relief, held to CL; of an abandoned episode it leaves the cone IDLE,
with RELIEF lowered. In BLOCKED by a tramp or a failed recovery only its notice says so; in BLOCKED for another cause RELIEF is lowered, and
in every other state the history is pruned as well (R63, R66 to R69, R74). -/
def Obligations.ReliefEndsInRecoveryOrBlock : Prop :=
  ∀ (s : State) (i : SlotId) (d : Nat), s.phase = .running →
    let x := s.slots.get i
    let c := x.crusher
    let now := max s.clock d
    let kept := c.history.filter (fun t => now / 1000 ≤ t + x.cp.reliefWindow)
    let ended := s.setDiscrete (.relief i) ⟨false, false, none⟩
    x.kind = .cone → x.relief = ⟨false, true, some d⟩ →
      (∀ e, c.motion = .relief → c.episode = some e → e.abandoned = false →
          ∃ t, exec (.debounceExpiry (.relief i)) s = .next t
            ∧ (t.slots.get i).crusher.history = kept
            ∧ (s.change = none → OnlyCrusher ended t i)
            ∧ (x.cp.reliefN ≤ kept.length →
              (let c' := (t.slots.get i).crusher
               c'.motion = .blocked .trampRepeat ∧ c'.episode = none ∧ c'.move = none ∧ c'.queue = [] ∧ c'.tf = c.tf
                  ∧ c'.stack = c.stack)
                ∧ (t.slots.get i).conds = x.conds.insert .trampRepeat
                ∧ (∀ f, x.cp.linkedFeeder = some f → (t.slots.get f).feeder.inhibits = (s.slots.get f).feeder.inhibits))
            ∧ (kept.length < x.cp.reliefN → ∀ p, x.position.valid = true → x.position.last = some p →
              ∀ aim : Int, (match e.returnTo, c.move with
                  | .moving, some m => some (m.target : Int)
                  | _, _ => e.pPre.map Int.ofNat) = some aim →
                let target := min aim x.closeLimit
                (t.slots.get i).crusher =
                    { c with history := kept, motion := .recovering, episode := some { e with target := some target },
                             travel := some (now + x.cp.travel * 1000),
                             settle := if toward p target x.cp.db = .arrived then some (now + x.cp.settle) else none }
                  ∧ (∀ g, toward p target x.cp.db = .drive g →
                    (t.slots.get i).driver.cmd = ⟨some g, true, if g = .closing then x.closeLimit else 0⟩)
                  ∧ OnlyCrusher ended t i))
        ∧ (∀ e, c.motion = .relief → c.episode = some e → e.abandoned = true →
          Quiet x ∨ (x.lockout.state = true ∧ c.wearBlock = false) →
          ∃ t, exec (.debounceExpiry (.relief i)) s = .next t
            ∧ (t.slots.get i).crusher = { c with history := kept, episode := none, motion := .idle }
            ∧ (t.slots.get i).driver = x.driver ∧ (t.slots.get i).conds = x.conds
            ∧ OnLinked t i (fun f => f.inhibits.relief = false) ∧ OnlyCrusher ended t i)
        ∧ (c.motion = .blocked .trampRepeat ∨ c.motion = .blocked .recoveryFail →
          exec (.debounceExpiry (.relief i)) s = .next (((s.reach d).setDiscrete (.relief i) ⟨false, false, none⟩).announce
            [⟨now / 1000, some i, .relief (some .recorded) c.history.length⟩]))
        ∧ (c.motion ≠ .relief → c.motion ≠ .blocked .trampRepeat → c.motion ≠ .blocked .recoveryFail →
          ∃ t, exec (.debounceExpiry (.relief i)) s = .next t
            ∧ (t.slots.get i).crusher = { c with history := match c.motion with
                | .blocked _ => c.history
                | _ => kept }
            ∧ (t.slots.get i).driver = x.driver ∧ (t.slots.get i).conds = x.conds
            ∧ OnLinked t i (fun f => f.inhibits.relief = false) ∧ OnlyCrusher ended t i)

/-- A recovery that settles within DB closes the episode: RECOVERY_DELAY for RELIEF on the linked feeder, the restart delay, and the slot
IDLE, or a carried move ended DONE, SUSPENDED again while causes are left, or in MOVING with the full TRAVEL where they left while it was
suspended. A recovery whose timer expires blocks the cone. The restart delay's expiry lowers its reason (R70 to
R72). CLEAR_BLOCK takes a slot blocked by a tramp repeat or a failed recovery to IDLE, clears the history and lowers RELIEF; it is refused
RELIEF while the switch is asserted, BLOCKED for the other causes, and NOT_ACTIVE where nothing is blocked (R76; the place of its reply,
log 6). -/
def Obligations.RecoveriesAndBlocksEnd : Prop :=
  (∀ (s : State) (i : SlotId) (d : Nat), s.phase = .running →
     let x := s.slots.get i
     let c := x.crusher
     let now := max s.clock d
     (∀ e p target, c.motion = .recovering → c.settle = some d → c.episode = some e → e.target = some target →
         x.position.last = some p → toward p target x.cp.db = .arrived → Quiet x →
         let closed := { c with motion := .idle, episode := none, travel := none, settle := none,
                                restart := some (now + x.cp.restartDelay * 1000) }
         ∃ t, exec (.settleExpiry i) s = .next t
           ∧ OnLinked t i (fun f => f.inhibits.relief = false ∧ f.inhibits.recoveryDelay = true)
           ∧ (c.move = none → (t.slots.get i).crusher = closed ∧ OnlyCrusher s t i)
           ∧ ∀ m, c.move = some m → e.returnTo ≠ .idle →
             (e.returnTo = .moving → m.causes = .zero → m.entry.kind = .set →
                 (t.slots.get i).crusher =
                     { closed with move := none, suspension := none, drainLimit := none, fixedDrain := none, wAtMove := c.w,
                                   tf := m.applied.getD c.tf, stack := c.stack.push ⟨c.tf, m.entry.origin⟩ }
                   ∧ (t.slots.get i).driver.cmd = .hold ∧ t.isDirty (.wear i) = true ∧ (s.change = none → OnlyCrusher s t i))
               ∧ (m.causes ≠ .zero →
                 (t.slots.get i).crusher =
                     { closed with motion := .suspended, suspension := some (now + x.cp.suspLimit * 1000),
                                   move := some { m with returnTo := .moving, remaining := x.cp.travel * 1000 } }
                   ∧ (t.slots.get i).driver.cmd = .hold ∧ (t.slots.get i).driver.out = none ∧ OnlyCrusher s t i)
               ∧ (e.returnTo = .suspended → m.causes = .zero → x.position.valid = true →
                 let onward := { closed with travel := some (now + x.cp.travel * 1000) }
                 (∀ g, toward p m.target x.cp.db = .drive g →
                     (t.slots.get i).crusher = { onward with motion := .moving }
                       ∧ (t.slots.get i).driver.cmd = x.moveCommand p m.target g)
                   ∧ (toward p m.target x.cp.db = .arrived →
                     (t.slots.get i).crusher = { onward with motion := .settling, settle := some (now + x.cp.settle) }
                       ∧ (t.slots.get i).driver.cmd = .hold ∧ (t.slots.get i).driver.out = none)
                   ∧ OnlyCrusher s t i))
       ∧ (c.motion = .recovering → c.travel = some d →
         exec (.travelExpiry i) s = .next s
           ∧ ∃ t, exec (.recoveryTimerExpiry i) s = .next t
             ∧ (let c' := (t.slots.get i).crusher
               c'.motion = .blocked .recoveryFail ∧ c'.episode = none ∧ c'.move = none ∧ c'.queue = [] ∧ c'.settle = none
                 ∧ c'.travel = none ∧ c'.restart = c.restart ∧ c'.tf = c.tf)
             ∧ (t.slots.get i).conds = x.conds.insert .moveTimeout ∧ (s.change = none → OnlyCrusher s t i)
             ∧ (t.slots.get i).driver.cmd = .hold ∧ (t.slots.get i).driver.out = none
             ∧ (∀ f, x.cp.linkedFeeder = some f → (t.slots.get f).feeder.inhibits = (s.slots.get f).feeder.inhibits))
       ∧ (c.restart = some d →
         ∃ t, exec (.restartDelayExpiry i) s = .next t
           ∧ (t.slots.get i).crusher = { c with restart := none }
           ∧ OnLinked t i (fun f => f.inhibits.recoveryDelay = false)
           ∧ OnlyCrusher s t i))
    ∧ (∀ (s : State) (r : Request) (i : SlotId), OnCrusher s .clearBlock r i →
         let x := s.slots.get i
         let c := x.crusher
         let relieved := c.motion = .blocked .trampRepeat ∨ c.motion = .blocked .recoveryFail
         (relieved → x.kind = .cone ∧ x.relief.state = true → Refuses s .clearBlock r .relief)
           ∧ (c.motion = .blocked .wearLimit ∨ c.motion = .blocked .paramFault → Refuses s .clearBlock r .blocked)
           ∧ ((∀ b, c.motion ≠ .blocked b) → Refuses s .clearBlock r .notActive)
           ∧ (relieved → x.kind = .jaw ∨ x.relief.state = false → Quiet x →
             ∃ t, exec (.clearBlock r) s = .next t
               ∧ (t.slots.get i).crusher = { c with motion := .idle, history := [] }
               ∧ OnLinked t i (fun f => f.inhibits.relief = false)
               ∧ (t.ports.get r.port).tx = (s.ports.get r.port).tx
                   ++ [⟨ReqCode.clearBlock.code, .done, .noReason, r.tag, (s.ports.get r.port).reqno + 1, r.slot, .empty⟩]
               ∧ OnlyCrusher (s.countRequest r.port) t i))

/-! ### Calibration and wear (chapter 5) -/

/-- CALIBRATE on an IDLE or worn-out slot with an empty queue starts a run in the DRAIN stage: STARTED, CALIBRATE on the linked feeder and
the drain timers; else it is refused BLOCKED, NOT_IDLE or RELIEF (R82, R85, R86). The contact: the jump of the contact position from the
predicted zero, in dmm, against CAL_TOL and the CAL_JUMP mask decides whether Z, W and what counts from them are replaced; the last
calibration record is replaced either way, and the backoff target is fixed (R87 to R91, R95; the trace the contact test reads, log 26). A run
ends FAILED at the drain limit, at an invalid position in APPROACH or at its entry, at the travel expiry, and through REOPEN without contact;
it ends at the settle expiry within DB of the backoff target with the disposition the contact and the reach gave it. At its end CALIBRATE is
lowered, the final reply and the MOVE_END notice are raised, and the slot is IDLE, or blocked by its wear where the mark says so (R82, R86,
R87, R90 to R93). -/
def Obligations.CalibrationStartsAndContacts : Prop :=
  (∀ (s : State) (r : Request) (i : SlotId), OnCrusher s .calibrate r i → Unbarred s i →
     let x := s.slots.get i
     let c := x.crusher
     let ready := c.motion = .idle ∨ c.motion = .blocked .wearLimit
     ((∃ b, c.motion = .blocked b ∧ b ≠ .wearLimit) → Refuses s .calibrate r .blocked)
       ∧ ((∀ b, c.motion ≠ .blocked b) ∧ c.motion ≠ .idle ∨ (ready ∧ c.queue ≠ []) → Refuses s .calibrate r .notIdle)
       ∧ (ready → c.queue = [] → x.kind = .cone ∧ x.relief.state = true → Refuses s .calibrate r .relief)
       ∧ (ready → c.queue = [] → x.kind = .jaw ∨ x.relief.state = false → x.cavityEmpty = false →
         ∃ t, exec (.calibrate r) s = .next t
           ∧ (t.slots.get i).crusher =
               { c with motion := .calibrating, wearBlock := c.wearBlock || c.motion == .blocked .wearLimit,
                        drainLimit := some (s.clock + x.cp.drainLimit * 1000),
                        fixedDrain := if x.cp.levelIn then none else some (s.clock + x.cp.drainFixed * 1000),
                        cal := some { port := r.port, tag := r.tag, reqno := (s.ports.get r.port).reqno + 1, ack := r.ackWanted,
                                      stage := .drain, fromBlocked := c.motion == .blocked .wearLimit, pStart := none,
                                      contact := none, target := none, adjCalJump := false, adjReach := false,
                                      reachFail := false, stageAt := s.clock, trace := [] } }
           ∧ OnLinked t i (fun f => f.inhibits.calibrate = true) ∧ (FeedLaw s → OnLinked t i (fun f => f.r = 0))
           ∧ (t.ports.get r.port).tx = (s.ports.get r.port).tx
               ++ [⟨ReqCode.calibrate.code, .started, .noReason, r.tag, (s.ports.get r.port).reqno + 1, r.slot, .empty⟩]
           ∧ OnlyCrusher (s.countRequest r.port) t i))
    ∧ (∀ (s : State) (i : SlotId) (a : PositionAnswer) (run : CalRun),
         let x := s.slots.get i
         let c := x.crusher
         let s' := s.reachSample x.position.sampledAt 20
         let p := a.position x.cp.inverted
         let predicted := c.z + countsOf x.cp.g c.w
         let jump := gapOf x.cp.g (if p ≤ predicted then predicted - p else p - predicted)
         s.phase = .running → x.kind.isCrusher = true → a.good = true → c.motion = .calibrating → c.cal = some run →
           run.stage = .approach → p < x.cp.pHi → run.contactAt s'.clock p = true →
           ∃ t, exec (.positionSample i a) s = .next t
             ∧ (t.slots.get i).crusher.motion = .calibrating
             ∧ (let c' := (t.slots.get i).crusher
               let aim := targetFor x.cp c'.z c'.w (x.mask.mem .reach) c.tf
               let start := run.pStart.getD p
               let outcome : CalOutcome :=
                 if jump ≤ x.cp.calTol then .accepted else if x.mask.mem .calJump then .adjusted else .rejected
               c'.cal = some { run with
                   stage := .backoff, contact := some outcome, adjCalJump := outcome == .adjusted
                   target := some (match aim.pos with
                     | some q => if q ≤ p then q else start
                     | none => start)
                   adjReach := aim.reach && aim.pos.isSome, reachFail := aim.pos.isNone, trace := [] }
                 ∧ c'.travel = some (s'.clock + x.cp.travel * 1000)
                 ∧ (aim.reach = true → (t.slots.get i).conds.mem .reach = true))
             ∧ t.isDirty (.cal i) = true
             ∧ (t.slots.get i).crusher.tf = c.tf
           ∧ OnlyCrusher (s.modSlot i (fun x => { x with position := ⟨true, 0, some p, some s'.clock⟩ })) t i
             ∧ (x.cp.calTol < jump → (t.slots.get i).conds.mem .calJump = true)
             ∧ (let c' := (t.slots.get i).crusher
               (jump ≤ x.cp.calTol ∨ x.mask.mem .calJump = true →
                   c'.z = p ∧ c'.w = 0 ∧ c'.acc = 0 ∧ c'.tonnes = 0 ∧ c'.wAtMove = 0 ∧ c'.wearBlock = false
                     ∧ t.isDirty (.wear i) = true
                     ∧ c'.lastCal = some ⟨s'.clock / 1000, c.z, p, c.w, jump,
                         if jump ≤ x.cp.calTol then .accepted else .adjusted⟩)
                 ∧ (x.cp.calTol < jump → x.mask.mem .calJump = false →
                   c'.z = c.z ∧ c'.w = c.w ∧ c'.acc = c.acc ∧ c'.tonnes = c.tonnes ∧ c'.wAtMove = c.wAtMove
                     ∧ c'.lastCal = some ⟨s'.clock / 1000, c.z, p, c.w, jump, .rejected⟩)))
    ∧ (∀ (s : State) (i : SlotId) (run : CalRun) (d : Nat),
         let x := s.slots.get i
         let c := x.crusher
         let now := max s.clock d
         s.phase = .running → x.kind.isCrusher = true → c.motion = .calibrating → c.cal = some run → c.queue = [] →
           NoTrim x →
           let ends := fun (cmd : Instr) (base : State) (disp : Disposition) (why : Reason) (conds : CondSet) =>
             ∃ t, exec cmd s = .next t
               ∧ (t.slots.get i).crusher =
                   { c with motion := if c.wearBlock then .blocked .wearLimit else .idle, wearBlock := false, cal := none,
                            travel := none, settle := none, suspension := none, drainLimit := none, fixedDrain := none }
               ∧ (t.slots.get i).driver.cmd = .hold ∧ (t.slots.get i).driver.out = none
               ∧ (t.slots.get i).conds = conds
               ∧ OnLinked t i (fun f => f.inhibits.calibrate = c.wearBlock)
               ∧ OnlyCrusher base t i
               ∧ (∀ q, s.enabled q = true → (s.ports.get q).tx.length < 64 →
                 (t.ports.get q).tx = (s.ports.get q).tx ++ (if run.port = q ∧ run.ack = true then
                   [⟨ReqCode.calibrate.code, disp, why, run.tag, run.reqno, BitVec.ofNat 8 i.val,
                     .calibrated c.z c.w (if run.contact.isSome then c.lastCal else none)⟩] else []))
               ∧ (∀ q, s.enabled q = true → (s.ports.get q).subs = NoticeSet.every → (s.ports.get q).notices.length ≤ 13 →
                 ⟨t.clock / 1000, some i, .moveEnd .calibrate disp why (.port run.port) run.tag c.tf⟩ ∈ (t.ports.get q).notices)
           (c.drainLimit = some d → run.stage = .drain →
               ends (.drainLimitExpiry i) s .failed .drainTimeout (x.conds.insert .drainTimeout))
             ∧ (c.fixedDrain = some d → run.stage = .drain →
               (x.position.valid = false → ends (.fixedDrainExpiry i) s .failed .sensor (x.conds.insert .positionInvalid))
                 ∧ ∀ p, x.position.valid = true → x.position.last = some p →
                   exec (.fixedDrainExpiry i) s = .next ((s.reach d).modSlot i (fun x =>
                     { x with crusher :=
                       { c with drainLimit := none, fixedDrain := none, travel := some (now + x.cp.travel * 1000),
                                cal := some { run with stage := .approach, stageAt := now, pStart := some p,
                                                       trace := [(now, p)] } } }.command now ⟨some .closing, true, x.cp.pHi⟩)))
             ∧ (c.travel = some d →
               ends (.travelExpiry i) s .failed (if run.stage = .reopen then .noContact else .timeout)
                 (x.conds.insert .moveTimeout))
             ∧ (∀ p, c.settle = some d → x.position.last = some p →
               (∀ start, run.stage = .reopen → run.pStart = some start → toward p start x.cp.db = .arrived →
                   ends (.settleExpiry i) s .failed .noContact x.conds)
                 ∧ ∀ target, run.stage = .backoff → run.target = some target → toward p target x.cp.db = .arrived →
                   let verdict : Disposition × Reason :=
                     if run.contact = some .rejected then (.failed, .calJump)
                     else if run.reachFail then (.failed, .reach)
                     else if run.adjCalJump then (.doneAdjusted, .calJump)
                     else if run.adjReach then (.doneAdjusted, .reach)
                     else (.done, .noReason)
                   ends (.settleExpiry i) s verdict.1 verdict.2 x.conds)
             ∧ ∀ a : PositionAnswer,
               let s' := s.reachSample x.position.sampledAt 20
               (a.good = false → x.position.valid = true → x.position.bad = 2 →
                   let lost := s.modSlot i (fun x => { x with position := ⟨false, 3, x.position.last, some s'.clock⟩ })
                   (run.stage = .approach →
                       ends (.positionSample i a) lost .failed .sensor (x.conds.insert .positionInvalid))
                     ∧ (run.stage = .reopen →
                       ends (.positionSample i a) lost .failed .noContact (x.conds.insert .positionInvalid)))
                 ∧ (a.good = true → run.stage = .approach → x.cp.pHi ≤ a.position x.cp.inverted →
                   let p := a.position x.cp.inverted
                   let start := run.pStart.getD p
                   ∃ t, exec (.positionSample i a) s = .next t
                     ∧ (t.slots.get i).crusher =
                         { c with cal := some { run with stage := .reopen, trace := [] },
                                  travel := some (s'.clock + x.cp.travel * 1000),
                                  settle := if toward p start x.cp.db = .arrived then some (s'.clock + x.cp.settle)
                                    else c.settle }
                     ∧ (t.slots.get i).conds = x.conds.insert .noContact
                     ∧ (toward p start x.cp.db = .drive .opening →
                       (t.slots.get i).driver.cmd = ⟨some .opening, true, 0⟩)
                     ∧ OnlyCrusher (s.modSlot i (fun x => { x with position := ⟨true, 0, some p, some s'.clock⟩ })) t i))

/-- A tonnage edge within 100 ms of the last is dropped. An accepted one counts a tonne and adds WEAR_RATE; a carry adds 1 to W below
WEAR_MAX; at WEAR_MAX the condition is recorded, and unmasked it blocks an IDLE slot or marks a busy one (R80, R81, R166). Where the
increment brings W by TRIM_STEP above W_at_move, an IDLE cone with AUTO_TRIM, an empty queue and neither lockout, line stop nor hold span
starts a TRIM, as it does at a start check that finds this, here the release of its lockout input; a busy or barred one does not (R41,
R59, R83). A W above WEAR_MAX, which no run reaches (log 28), meets the ceiling like one at it by the model's choice. -/
def Obligations.TonnageRaisesWear : Prop :=
  (∀ (s : State) (i : SlotId), s.phase = .running →
     let x := s.slots.get i
     let c := x.crusher
     let sum := c.acc + x.cp.wearRate
     let counted := fun (c : Crusher) =>
       { c with tonnes := if c.tonnes + 1 ≤ 16777215 then c.tonnes + 1 else 16777215,
                acc := if sum ≥ 65536 then sum - 65536 else sum }
     let trims := x.kind = .cone ∧ x.cp.autoTrim = true ∧ c.wAtMove + x.cp.trimStep ≤ c.w + 1 ∧ c.motion = .idle ∧ c.queue = []
       ∧ Unbarred s i
     let edge := s.modSlot i (fun x => { x with lastEdge := some s.clock })
     x.kind.isCrusher = true →
       (∀ last, x.lastEdge = some last → s.clock < last + 100 → exec (.tonnageEdge i) s = .next s)
         ∧ ((∀ last, x.lastEdge = some last → last + 100 ≤ s.clock) →
           (sum < 65536 →
               exec (.tonnageEdge i) s = .next (s.modSlot i (fun x =>
                 { x with lastEdge := some s.clock, crusher := counted x.crusher })))
             ∧ (65536 ≤ sum → c.w + 1 < x.cp.wearMax → ¬ trims →
               exec (.tonnageEdge i) s = .next { s.modSlot i (fun x =>
                 { x with lastEdge := some s.clock, crusher := { counted x.crusher with w := c.w + 1 } }) with
                 dirty := s.dirty ||| BitVec.twoPow 33 (RecId.wear i).number })
             ∧ (65536 ≤ sum → c.w < x.cp.wearMax → trims → c.wearBlock = false →
               c.w + 1 < x.cp.wearMax ∨ x.mask.mem .wearLimit = true →
               let worn := edge.modSlot i (fun x => { x with
                 crusher := { counted x.crusher with w := c.w + 1 }
                 conds := if c.w + 1 = x.cp.wearMax then x.conds.insert .wearLimit else x.conds })
               ∃ t, exec (.tonnageEdge i) s = .next t ∧ TrimRuns worn t i ∧ OnlyCrusher edge t i ∧ t.isDirty (.wear i) = true)
             ∧ (65536 ≤ sum → x.cp.wearMax ≤ c.w + 1 → ¬ trims ∨ x.mask.mem .wearLimit = false ∨ x.cp.wearMax ≤ c.w →
               ∃ t, exec (.tonnageEdge i) s = .next t
                 ∧ (s.change = none → OnlyCrusher edge t i)
                 ∧ (let w := if c.w < x.cp.wearMax then c.w + 1 else c.w
                   let c' := (t.slots.get i).crusher
                   c'.w = w
                     ∧ (c.w ≤ x.cp.wearMax → (t.slots.get i).conds.mem .wearLimit = true)
                     ∧ (x.mask.mem .wearLimit = true → c' = { counted c with w := w })
                     ∧ (x.mask.mem .wearLimit = false →
                       (c.motion = .idle → c'.motion = .blocked .wearLimit ∧ c'.queue = []
                           ∧ OnLinked t i (fun f => f.inhibits.calibrate = true))
                         ∧ (c.motion = .blocked .wearLimit → c' = { counted c with w := w })
                         ∧ (c.motion ≠ .idle → c.motion ≠ .blocked .wearLimit →
                           c' = { counted c with w := w, wearBlock := true }))))))
    ∧ ∀ (s : State) (i : SlotId) (d : Nat), s.phase = .running →
      let x := s.slots.get i
      let c := x.crusher
      let freed := fun (s : State) => s.setDiscrete (.lockout i) ⟨false, false, none⟩
      x.kind = .cone → x.lockout = ⟨false, true, some d⟩ → c.motion = .idle → c.queue = [] → c.wearBlock = false →
        s.lineStop.state = false → s.held i = false → x.cp.autoTrim = true → c.wAtMove + x.cp.trimStep ≤ c.w →
        ∃ t, exec (.debounceExpiry (.lockout i)) s = .next t ∧ TrimRuns (freed (s.reach d)) t i ∧ OnlyCrusher (freed s) t i
          ∧ OnLinked t i (fun f => f.inhibits.lockout = false)

/-! ### Feeders and the bin (chapter 6) -/

/-- SET_RATE writes Rb, mode and Ls, sets the seed at a change to LEVEL and marks the record where a value changed; an Rb outside the range
is clamped and recorded where ENVELOPE is masked, else refused; the line stop and the run state do not refuse it (R109). -/
def Obligations.SetRateSetsTheBaseRate : Prop :=
  ∀ (s : State) (r : Request) (i : SlotId) (mode : RegMode), OnFeeder s .setRate r i →
    let x := s.slots.get i
    let f := x.feeder
    let rb := wordAt r.payload 0
    let ls := wordAt r.payload 3
    let written := fun (v : Nat) =>
      let s' := s.modSlot i (fun x => { x with feeder :=
        { f with rb := v, mode := mode, ls := ls, seed := f.seed || (f.mode == .fixed && mode == .level) } })
      if f.rb = v ∧ f.mode = mode ∧ f.ls = ls then s' else { s' with dirty := s.dirty ||| BitVec.twoPow 33 (RecId.wear i).number }
    (x.lockout.state = true → Refuses s .setRate r .lockout)
      ∧ (x.lockout.state = false → s.held i = true → Refuses s .setRate r .holdSpan)
      ∧ (x.lockout.state = false → s.held i = false → f.paramFault = true → Refuses s .setRate r .blocked)
      ∧ (x.lockout.state = false → s.held i = false → f.paramFault = false →
        (1000 < rb ∨ 1000 < ls ∨ RegMode.ofByte (byteAt r.payload 2) = none → Refuses s .setRate r .badValue)
          ∧ (rb ≤ 1000 → ls ≤ 1000 → RegMode.ofByte (byteAt r.payload 2) = some mode →
            (x.fp.rMin ≤ rb → rb ≤ x.fp.rMax →
                exec (.setRate r) s = .next ((written rb).withReply .setRate r .done .noReason (.feed rb mode ls)))
              ∧ (rb < x.fp.rMin ∨ x.fp.rMax < rb →
                (x.mask.mem .envelope = false → Refuses s .setRate r .envelope)
                  ∧ (x.mask.mem .envelope = true →
                    let v := if rb < x.fp.rMin then x.fp.rMin else x.fp.rMax
                    let s' := (written v).modSlot i (fun x => { x with conds := x.conds.insert .envelope })
                    let y := s'.slots.get i
                    exec (.setRate r) s = .next ((s'.withReply .setRate r .doneAdjusted .envelope (.feed v mode ls)).announce
                      (if x.conds.mem .envelope then []
                       else [⟨s.lineClock, some i, .condition .envelope (some true) y.conds (some y.summary) s'.lineSummary⟩]))))))

/-- START_FEED: its checks in order, and a STOPPED feeder in RUNNING with both timers started, its reference at 0 and the seed set; on a
RUNNING feeder it changes nothing. The hold span and a lockout of the crusher do not refuse it (R100, R101, R117). -/
def Obligations.StartFeedRunsTheFeeder : Prop :=
  ∀ (s : State) (r : Request), Taken s .startFeed r →
    ((∀ i, slotOfByte r.slot = some i → (s.slots.get i).kind ≠ .feeder) → Refuses s .startFeed r .badSlot)
      ∧ ∀ i, slotOfByte r.slot = some i → (s.slots.get i).kind = .feeder →
        let x := s.slots.get i
        let f := x.feeder
        let free := x.lockout.state = false ∧ s.lineStop.state = false
        (x.holder ≠ some r.port →
            Refuses s .startFeed r (s.awayReason r.port i))
          ∧ (x.holder = some r.port →
            (x.lockout.state = true → Refuses s .startFeed r .lockout)
              ∧ (x.lockout.state = false → s.lineStop.state = true → Refuses s .startFeed r .lineStop)
              ∧ (free → f.paramFault = true ∨ x.fp.served = none → Refuses s .startFeed r .blocked)
              ∧ (free → f.paramFault = false → x.fp.served ≠ none →
                (f.run = .fault → Refuses s .startFeed r .feederFault)
                  ∧ (f.run = .running → exec (.startFeed r) s = .next (s.withReply .startFeed r .done .noReason .empty))
                  ∧ (f.run = .stopped →
                    exec (.startFeed r) s = .next (((s.modSlot i (fun x => { x with feeder :=
                      { f with run := .running, r := 0, rPrev := 0, seed := true, regTimer := some (s.clock + x.fp.period),
                               confirmTimer := some (s.clock + x.fp.runConfirm) } })).withReply
                        .startFeed r .done .noReason .empty).announce
                      [⟨s.lineClock, some i, .feederState .running f.inhibits 0 .startFeed⟩]))))

/-- STOP_FEED takes a RUNNING or faulted feeder to STOPPED and leaves a STOPPED one as it is; only its slot's kind and holder can refuse
it (R100, R103, R117). -/
def Obligations.StopFeedStopsTheFeeder : Prop :=
  ∀ (s : State) (r : Request), Taken s .stopFeed r →
    ((∀ i, slotOfByte r.slot = some i → (s.slots.get i).kind ≠ .feeder) → Refuses s .stopFeed r .badSlot)
      ∧ ∀ i, slotOfByte r.slot = some i → (s.slots.get i).kind = .feeder →
        let x := s.slots.get i
        let f := x.feeder
        (x.holder ≠ some r.port →
            Refuses s .stopFeed r (s.awayReason r.port i))
          ∧ (x.holder = some r.port →
            (f.run = .stopped → exec (.stopFeed r) s = .next (s.withReply .stopFeed r .done .noReason .empty))
              ∧ (f.run ≠ .stopped →
                exec (.stopFeed r) s = .next (((s.modSlot i (fun x => { x with feeder :=
                  { f with run := .stopped, r := 0, rPrev := 0, seed := true, regTimer := none, confirmTimer := none } })).withReply
                    .stopFeed r .done .noReason .empty).announce
                  [⟨s.lineClock, some i, .feederState .stopped f.inhibits 0 .stopFeed⟩])))

/-- START_LINE from the plant starts every STOPPED feeder that no reason skips, with a notice each, and answers with those started and
those skipped; a RUNNING feeder counts as neither (R105; which reason a feeder with several is given is the model's choice, log 37). -/
def Obligations.StartLineStartsTheFeeders : Prop :=
  ∀ (s : State) (r : Request), Taken s .startLine r → r.slot = 0xFF →
    let why := fun (i : SlotId) =>
      let x := s.slots.get i
      if x.lockout.state then some Reason.lockout
      else if x.feeder.paramFault = true ∨ x.fp.served = none then some .blocked
      else if x.feeder.run = .fault then some .feederFault
      else if (s.localStation i).isSome then some .localMode
      else none
    let idle := slotIds.filter (fun i => (s.slots.get i).kind = .feeder ∧ (s.slots.get i).feeder.run ≠ .running)
    let started := idle.filter (fun i => (why i).isNone)
    let skipped := idle.filterMap (fun i => (why i).map (fun k => (i, k)))
    (r.port ≠ .plant → Refuses s .startLine r .authority)
      ∧ (r.port = .plant → s.lineStop.state = true → Refuses s .startLine r .lineStop)
      ∧ (r.port = .plant → s.lineStop.state = false →
        exec (.startLine r) s = .next
          ((({ s with slots := PerSlot.of (fun i =>
                let x := s.slots.get i
                if i ∈ started then
                  { x with feeder := { x.feeder with run := .running, r := 0, rPrev := 0, seed := true,
                                                     regTimer := some (s.clock + x.fp.period),
                                                     confirmTimer := some (s.clock + x.fp.runConfirm) } }
                else x) }).withReply .startLine r (if skipped = [] then .done else .partialDone) .noReason
              (.slots (SlotSet.ofList started) skipped)).announce
            (started.map (fun i =>
              ⟨s.lineClock, some i, .feederState .running (s.slots.get i).feeder.inhibits 0 .startLine⟩))))

/-- The running feedback: at the run-confirm expiry its absence is a FEEDER_FAULT and its presence confirms the start; its release faults
a RUNNING feeder once the timer has stopped, and means nothing before (R100, R102). -/
def Obligations.RunFeedbackIsConfirmed : Prop :=
  ∀ (s : State) (i : SlotId) (d : Nat), s.phase = .running → (s.slots.get i).kind = .feeder →
    let x := s.slots.get i
    let f := x.feeder
    let faulted := fun (x : Slot) =>
      { x with feeder := { f with run := .fault, r := 0, rPrev := 0, seed := true, regTimer := none, confirmTimer := none }
               conds := x.conds.insert .feederFault }
    let loses := fun (cmd : Instr) (s' : State) =>
      ∃ t, exec cmd s = .next t ∧ t = { s'.modSlot i faulted with ports := t.ports } ∧ PortsHeard s t
    let released := (s.reach d).setDiscrete (.running i) ⟨false, false, none⟩
    (f.confirmTimer = some d →
        (x.running.state = true →
            exec (.runConfirmExpiry i) s = .next ((s.reach d).modSlot i (fun x => { x with feeder := { f with confirmTimer := none } })))
          ∧ (x.running.state = false → f.run = .running → loses (.runConfirmExpiry i) (s.reach d)))
      ∧ (x.running = ⟨false, true, some d⟩ →
        (f.run = .running → f.confirmTimer = none → loses (.debounceExpiry (.running i)) released)
          ∧ (f.run ≠ .running ∨ f.confirmTimer ≠ none → exec (.debounceExpiry (.running i)) s = .next released))

/-- A regulation period of a RUNNING feeder: 0 under an inhibit; else the demand, the power cap, the bin, the ramp and the range in turn, kept
as the new reference (R110 to R114). An input that a stage needs and finds invalid records its condition: masked, the stage lets the rate not
rise above the last reference, and the computation goes on; unmasked, the feeder stops with that cause, and no later stage is reached
(R115). -/
def Obligations.RegulationComputesTheReference : Prop :=
  ∀ (s : State) (i : SlotId) (d : Nat), s.phase = .running →
    let x := s.slots.get i
    let f := x.feeder
    let p := x.fp
    let now := max s.clock d
    let next := fun (r : Nat) (seed : Bool) => nextState ((s.reach d).modSlot i (fun x =>
      { x with feeder := { f with r := r, rPrev := r, seed := seed, regTimer := some (now + p.period) } }))
    f.run = .running → f.regTimer = some d →
      (f.inhibits.isEmpty = false → exec (.regulationPeriod i) s = next 0 true)
        ∧ ∀ c, p.served = some c → f.inhibits.isEmpty = true →
          let y := s.slots.get c
          let byRate := f.mode = .fixed ∨ f.seed = true
          let noLevel := ¬ byRate ∧ y.level.valid = false
          let noPower := y.cp.powerIn = true ∧ y.power.valid = false
          let noBin := p.binRel ≠ .neither ∧ s.bin.state = .unknown
          let c1 := if noLevel then x.conds.insert .levelInvalid else x.conds
          let c2 := if noPower then c1.insert .powerInvalid else c1
          let c3 := if noBin then c2.insert .binInvalid else c2
          let passes := fun (missing : Prop) (k : Cond) => missing → x.mask.mem k = true
          let d1 : Int :=
            if byRate then f.rb
            else if noLevel then f.rPrev
            else f.rPrev + (((f.ls : Int) - y.level.last) * p.kl).tdiv 64
          let d2 : Int :=
            if noPower then min d1 f.rPrev
            else if y.cp.powerIn = true ∧ p.wLim < y.power.last then
              min d1 (f.rPrev - (((y.power.last : Int) - p.wLim) * p.kw).tdiv 64)
            else d1
          let forced := (p.binRel = .draws ∧ s.bin.state = .empty) ∨ (p.binRel = .fills ∧ s.bin.state = .full)
          let d3 : Int :=
            if noBin then min d2 f.rPrev
            else if p.binRel = .draws ∧ s.bin.state = .low then min d2 p.capLow
            else if p.binRel = .fills ∧ s.bin.state = .high then min d2 p.capHigh
            else d2
          let lo : Int := (f.rPrev : Int) - p.rampDn
          let hi : Int := (f.rPrev : Int) + p.rampUp
          let d4 := if d3 < lo then lo else if hi < d3 then hi else d3
          let r := if forced ∨ d4 ≤ 0 then 0 else if d4 < p.rMin then p.rMin else if p.rMax < d4 then p.rMax else d4.toNat
          let stops := fun (conds : CondSet) (cause : FeederCause) =>
            ∃ t, exec (.regulationPeriod i) s = .next t
              ∧ t = { (s.reach d).modSlot i (fun x =>
                  { x with feeder := { f with run := .stopped, r := 0, rPrev := 0, seed := true, regTimer := none
                                              confirmTimer := none }
                           conds := conds }) with ports := t.ports }
              ∧ PortsHeard s t
              ∧ ∀ q, s.enabled q = true → (s.ports.get q).subs = NoticeSet.every → (s.ports.get q).notices.length ≤ 12 →
                ⟨now / 1000, some i, .feederState .stopped f.inhibits 0 cause⟩ ∈ (t.ports.get q).notices
          (passes noLevel .levelInvalid → passes noPower .powerInvalid → passes noBin .binInvalid →
              (¬ noLevel → ¬ noPower → ¬ noBin → exec (.regulationPeriod i) s = next r forced)
                ∧ ∃ t, exec (.regulationPeriod i) s = .next t
                  ∧ t = { (s.reach d).modSlot i (fun x =>
                      { x with feeder := { f with r := r, rPrev := r, seed := forced, regTimer := some (now + p.period) }
                               conds := c3 }) with ports := t.ports }
                  ∧ PortsHeard s t)
            ∧ (noLevel → x.mask.mem .levelInvalid = false → stops c1 .levelInvalid)
            ∧ (passes noLevel .levelInvalid → noPower → x.mask.mem .powerInvalid = false → stops c2 .powerInvalid)
            ∧ (passes noLevel .levelInvalid → passes noPower .powerInvalid → noBin → x.mask.mem .binInvalid = false →
              stops c3 .binInvalid)

/-- A bin level: outside the raw range it is invalid, puts the bin to UNKNOWN and is recorded on every feeder that fills or draws; a valid
one is scaled, kept as the last valid level and moves the state, held back by HYS on the way toward NORMAL (R96, R97, R98, R161, R162). -/
def Obligations.BinFollowsItsLevel : Prop :=
  (∀ (s : State) (raw : BitVec 12), s.phase = .running →
      let now := (s.reachSample s.bin.input.sampledAt 50).clock
      let v := ((raw.toNat - 655) * 1000) / 2621
      let level := if v ≤ 1000 then v else 1000
      ∃ t, exec (.analogSample .bin raw) s = .next t
        ∧ t = { s with clock := now, bin := { t.bin with thresholds := s.bin.thresholds }, slots := t.slots, ports := t.ports }
        ∧ PortsHeard s t
        ∧ (575 ≤ raw.toNat ∧ raw.toNat ≤ 3356 →
          t.bin.input = ⟨true, level, some now⟩ ∧ t.bin.lastValid = level ∧ t.slots = s.slots
            ∧ t.bin.state = s.bin.thresholds.next s.bin.state level)
        ∧ (raw.toNat < 575 ∨ 3356 < raw.toNat →
          t.bin.input = ⟨false, s.bin.input.last, some now⟩ ∧ t.bin.lastValid = s.bin.lastValid
            ∧ (s.bin.input.valid = true → t.bin.state = .unknown
              ∧ ∀ i, t.slots.get i =
                  if (s.slots.get i).kind = .feeder ∧ (s.slots.get i).fp.binRel ≠ .neither then
                    { s.slots.get i with conds := (s.slots.get i).conds.insert .binInvalid }
                  else s.slots.get i)))
    ∧ ∀ (b : BinThresholds) (l : Nat), b.empty ≤ b.low → b.low ≤ b.high → b.high ≤ b.full →
      (b.next .unknown l = b.plain l)
        ∧ (b.next .empty l = .empty ↔ l < b.empty + b.hys)
        ∧ (b.empty < l → l < b.low + b.hys → b.next .low l = .low)
        ∧ (b.low < l → l < b.high → b.next .normal l = .normal)
        ∧ (b.high < l + b.hys → l < b.full → b.next .high l = .high)
        ∧ (b.hys ≤ b.full → (b.next .full l = .full ↔ b.full < l + b.hys))
        ∧ (b.full ≤ l → b.empty + b.hys ≤ l → b.low + b.hys ≤ l → ∀ k, k ≠ .unknown → 0 < b.hys → b.next k l = .full)

/-! ### Recipes and line changes (chapter 8) -/

/-- SAVE_RECIPE replaces the working copy of a record with what its body gives, marks it dirty and leaves the final reply to the store;
it is refused BAD_VALUE for a body with a fault and STORE_BUSY while the record is written. The erase form makes the record invalid; the
current form takes the gap or the rate in force of every slot in use; the explicit form gives the entries its 1 to 8 coded entries mean, in
slot order, and is accepted where each of them means one, of the form of its slot's present kind and within the ranges, and no two name one
slot (R135 to R137, R174). That the Ls bytes of a gap entry, and entries behind a body of the other two forms, are ignored is the model's
choice (log 50). -/
def Obligations.SaveRecipeReplacesTheRecord : Prop :=
  ∀ (s : State) (r : Request), Taken s .saveRecipe r → r.slot = 0xFF →
    (s.recipeOf r.payload = none → Refuses s .saveRecipe r .badValue)
      ∧ (∀ n new, s.recipeOf r.payload = some (n, new) →
        (s.isWriting (.recipe n) = true → Refuses s .saveRecipe r .storeBusy)
          ∧ (s.isWriting (.recipe n) = false →
            exec (.saveRecipe r) s = .next ({ s with
                recipes := s.recipes.set n new
                dirty := s.dirty ||| BitVec.twoPow 33 (25 + n.val)
                replies := s.replies ++ (if r.ackWanted then
                  [(⟨.recipe n, r.port, .saveRecipe, r.tag, (s.ports.get r.port).reqno + 1, r.slot, .done, .noReason⟩ : PendingReply)] else []) }.withReply
              .saveRecipe r .started .noReason (.recipeSaved n ((new.map (fun (x : Recipe) => x.entries.length)).getD 0)))))
      ∧ (8 ≤ (byteAt r.payload 0).toNat ∨ 3 ≤ (byteAt r.payload 1).toNat → s.recipeOf r.payload = none)
      ∧ (∀ n, slotOfByte (byteAt r.payload 0) = some n → byteAt r.payload 1 = 2 → s.recipeOf r.payload = some (n, none))
      ∧ (∀ n, slotOfByte (byteAt r.payload 0) = some n → byteAt r.payload 1 = 1 →
        let name := (r.payload.drop 3).take (byteAt r.payload 2).toNat
        let current := slotIds.filterMap (fun i =>
          let x := s.slots.get i
          if x.kind.isCrusher then some (⟨i, .gap x.crusher.tf⟩ : RecipeEntry)
          else if x.kind = .feeder then some ⟨i, .feed x.feeder.rb x.feeder.mode x.feeder.ls⟩
          else none)
        s.recipeOf r.payload =
          if 1 ≤ name.length ∧ name.length ≤ 16 ∧ (∀ b ∈ name, 0x20 ≤ b.toNat ∧ b.toNat ≤ 0x7E) ∧ current ≠ [] then
            some (n, some ⟨name, current⟩)
          else none)
      ∧ ∀ n, slotOfByte (byteAt r.payload 0) = some n → byteAt r.payload 1 = 0 →
        let p := r.payload
        let len := (byteAt p 2).toNat
        let name := (p.drop 3).take len
        let count := (byteAt p (3 + len)).toNat
        let means := fun (k : Nat) => CodesEntry s p (4 + len + 6 * k)
        let accepted := 1 ≤ name.length ∧ name.length ≤ 16 ∧ (∀ b ∈ name, 0x20 ≤ b.toNat ∧ b.toNat ≤ 0x7E) ∧ 1 ≤ count ∧ count ≤ 8
          ∧ (∀ k, k < count → ∃ e, means k e)
          ∧ ∀ j k, j < count → k < count → byteAt p (4 + len + 6 * j) = byteAt p (4 + len + 6 * k) → j = k
        (¬ accepted → s.recipeOf p = none)
          ∧ (accepted → ∃ l : List RecipeEntry, s.recipeOf p = some (n, some ⟨name, l⟩)
            ∧ l.Pairwise (fun a b => a.slot < b.slot) ∧ ∀ e, e ∈ l ↔ ∃ k, k < count ∧ means k e)

/-- APPLY_RECIPE on a recipe of any number of entries: its checks in order; then the items. Each is judged by the skip rules; wave 1 applies
the rates below the present ones, wave 2 puts the gaps into the queues of their crushers, and, where no gap item is left ACTIVE, wave 3 applies
the other rates and the change ends at its creation with its outcome; else it stands in wave 2. An item is DONE, ADJUSTED, ACTIVE, SKIPPED or
FAILED with its reason and its applied value, each slot has what its item gave it, and the condition notices come wave by wave. This clause
is for crushers that are busy, or IDLE under a STAGED change; for a recipe of one entry a clause says what a DIRECT change starts at an IDLE
crusher: a cone drives, a jaw drains, and a target out of reach ends move and change. The last clause is the end of the last ACTIVE item at
a settle expiry, with wave 3 and the outcome behind it (R31, R36, R41, R109, R139 to R145, R147; the model's
choice are the wave that a skipped feed item holds, log 42, the reason NONE of an item PENDING or ACTIVE, log 52, and that the notices come
wave by wave, log 55; the SLOT byte of an entry's final reply is deduced, log 8). -/
def Obligations.ApplyRecipeCreatesAChange : Prop :=
  (∀ (s : State) (r : Request), Taken s .applyRecipe r → r.slot = 0xFF →
     let limit := wordAt r.payload 2
     let id := if s.lastChangeId ≥ 255 then 1 else s.lastChangeId + 1
     (8 ≤ (byteAt r.payload 0).toNat ∨ 2 ≤ (byteAt r.payload 1).toNat ∨ (limit ≠ 0 ∧ (limit < 60 ∨ 3600 < limit)) →
         Refuses s .applyRecipe r .badValue)
       ∧ ∀ n mode, slotOfByte (byteAt r.payload 0) = some n → ChangeMode.ofByte (byteAt r.payload 1) = some mode →
         (limit = 0 ∨ (60 ≤ limit ∧ limit ≤ 3600)) →
         let made := fun (items : List Item) =>
           (⟨id, r.port, r.tag, (s.ports.get r.port).reqno + 1, r.ackWanted, n, mode, 2,
             s.clock + (if limit = 0 then 900 else limit) * 1000, items⟩ : Change)
         let entry := fun (g : Nat) (a : Option Nat) (clamped : Bool) => { s.entryFor .applyRecipe r .set g a clamped with
           priority := false, staged := mode == .staged, changeId := some id }
         let told := fun (d : Disposition) (why : Reason) (slot : Byte) (body : ReplyBody) =>
           (⟨ReqCode.applyRecipe.code, d, why, r.tag, (s.ports.get r.port).reqno + 1, slot, body⟩ : Reply)
         (s.lineStop.state = true → Refuses s .applyRecipe r .lineStop)
           ∧ (s.lineStop.state = false → s.change ≠ none → Refuses s .applyRecipe r .busy)
           ∧ (s.lineStop.state = false → s.change = none → s.recipes.get n = none → Refuses s .applyRecipe r .empty)
           ∧ ∀ recipe, s.recipes.get n = some recipe → s.lineStop.state = false → s.change = none →
             let created := recipe.entries.map (s.createdItem r.port)
             let result := fun (it : Item) => (⟨it.slot, it.state, it.reason, it.applied⟩ : ItemResult)
             let started := told .started .noReason r.slot (.changeStarted id (created.map (fun it => (it.slot, it.state))))
             let base := { s.countRequest r.port with lastChangeId := id }
             (recipe.entries.Pairwise (fun a b => a.slot < b.slot) →
                 (∀ it ∈ created, it.isGap = true → it.state = .pending →
                   let c := (s.slots.get it.slot).crusher
                   c.motion ≠ .idle ∨ (mode = .staged ∧ c.queue = [] ∧ c.wearBlock = false)) →
                 let second := created.map s.afterWaveTwo
                 let going := ∃ it ∈ second, it.state = .active
                 let items := if going then second else second.map s.afterWaveThree
                 let outcome := outcomeOf items
                 let warned := fun (wave : Nat) =>
                   (items.filter (fun it => it.wave == wave && it.clamped && !(s.slots.get it.slot).conds.mem .envelope)).map
                     (fun it => some it.slot)
                 ∃ t, exec (.applyRecipe r) s = .next t ∧ t.lastChangeId = id ∧ OnlyWork base t
                   ∧ t.change = (if going then some (made items) else none)
                   ∧ (∀ it ∈ items, t.slots.get it.slot = (s.slots.get it.slot).took it (entry 0 none false))
                   ∧ (∀ j, (∀ it ∈ items, it.slot ≠ j) → t.slots.get j = s.slots.get j)
                   ∧ (∀ id, t.isDirty id = true ↔ s.isDirty id = true ∨ ∃ it ∈ items, id = .wear it.slot ∧
                     (let f := (s.slots.get it.slot).feeder
                      let f' := (t.slots.get it.slot).feeder
                      f'.rb ≠ f.rb ∨ f'.mode ≠ f.mode ∨ f'.ls ≠ f.ls))
                   ∧ ((s.ports.get r.port).tx.length + 2 ≤ 64 →
                     (t.ports.get r.port).tx = (s.ports.get r.port).tx ++ [started]
                       ++ (if r.ackWanted = true ∧ ¬ going then
                         [told outcome.1 outcome.2 0xFF (.changeItems id n (items.map result))] else []))
                   ∧ ∀ q, s.enabled q = true → (s.ports.get q).subs = NoticeSet.every → (s.ports.get q).notices.length ≤ 7 →
                     (t.ports.get q).notices.map (·.slot)
                         = (s.ports.get q).notices.map (·.slot) ++ warned 1 ++ warned 2 ++ warned 3 ++ (if going then [] else [none])
                       ∧ (¬ going → (t.ports.get q).notices.getLast?
                           = some ⟨s.lineClock, none, .changeEnd id r.port n outcome.1 outcome.2 (items.map result)⟩))
               ∧ ∀ i g, recipe.entries = [⟨i, .gap g⟩] →
                 let x := s.slots.get i
                 let c := x.crusher
                 x.kind.isCrusher = true → x.holder = some r.port → Unbarred s i → x.cp.envMin ≤ g → g ≤ x.cp.envMax →
                 (c.motion ≠ .idle → (∀ b, c.motion ≠ .blocked b) → c.queue.length < 4 →
                     exec (.applyRecipe r) s = .next ({ s.modSlot i (fun x =>
                         { x with crusher := { x.crusher with queue := x.crusher.queue ++ [entry g (some g) false] } }) with
                         change := some (made [⟨i, x.kind, .gap g, 2, .active, .noReason, some g⟩]), lastChangeId := id }.withReply
                       .applyRecipe r .started .noReason (.changeStarted id [(i, .pending)])))
                   ∧ (c.motion = .idle → c.queue = [] → c.wearBlock = false → mode = .direct →
                     let aim := targetFor x.cp c.z c.w (x.mask.mem .reach) g
                     let run := fun (pt : Nat) => { c with
                       travel := some (s.clock + x.cp.travel * 1000)
                       move := some ⟨entry g (some g) false, some g, pt, if aim.reach then some .reach else none, .moving, .zero, 0⟩ }
                     let active := some (made [⟨i, x.kind, .gap g, 2, .active, .noReason, some g⟩])
                     let met := if aim.reach then x.conds.insert .reach else x.conds
                     ∃ t, exec (.applyRecipe r) s = .next t ∧ t.lastChangeId = id ∧ OnlyWork base t
                       ∧ (∀ pt p, aim.pos = some pt → x.kind = .cone → x.position.valid = true → x.position.last = some p →
                         t.change = active ∧ (t.slots.get i).conds = met
                           ∧ (∀ d, toward p pt x.cp.db = .drive d →
                             (t.slots.get i).crusher = { run pt with motion := .moving }
                               ∧ (t.slots.get i).driver.cmd = x.moveCommand p pt d)
                           ∧ (toward p pt x.cp.db = .arrived →
                             (t.slots.get i).crusher = { run pt with motion := .settling, settle := some (s.clock + x.cp.settle) }
                               ∧ (t.slots.get i).driver.cmd = .hold ∧ (t.slots.get i).driver.out = none))
                       ∧ (∀ pt, aim.pos = some pt → x.kind = .jaw → x.cavityEmpty = false →
                         t.change = active ∧ (t.slots.get i).conds = met ∧ (t.slots.get i).driver = x.driver
                           ∧ OnLinked t i (fun f => f.inhibits.drain = true)
                           ∧ (t.slots.get i).crusher = { run pt with
                               motion := .draining
                               drainLimit := some (s.clock + x.cp.drainLimit * 1000)
                               fixedDrain := if x.cp.levelIn then none else some (s.clock + x.cp.drainFixed * 1000) })
                       ∧ (aim.pos = none → NoTrim x →
                         t.change = none ∧ (t.slots.get i).conds = met
                           ∧ (t.slots.get i).driver.cmd = .hold ∧ (t.slots.get i).driver.out = none
                           ∧ (t.slots.get i).crusher =
                             { c with move := none, travel := none, settle := none, suspension := none, drainLimit := none,
                                      fixedDrain := none }
                           ∧ ((s.ports.get r.port).tx.length + 3 ≤ 64 →
                             (t.ports.get r.port).tx = (s.ports.get r.port).tx ++ [started] ++ (if r.ackWanted then
                               [told .failed .reach 0xFF (.moveEnded (some g) c.tf),
                                told .failed .reach 0xFF (.changeItems id n [⟨i, .failed, .reach, some g⟩])]
                               else [])))))
    ∧ ∀ (s : State) (i : SlotId) (d p : Nat) (m : MoveRec) (ch : Change),
      let x := s.slots.get i
      let c := x.crusher
      s.phase = .running → s.change = some ch → ch.wave = 2 → ch.items.Pairwise (fun a b => a.slot < b.slot) →
        (∃ it ∈ ch.items, it.slot = i ∧ it.isGap = true ∧ it.state = .active) →
        (∀ it ∈ ch.items, it.slot ≠ i → it.state = .active ∨ it.state = .pending → it.isGap = false) →
        c.motion = .settling → c.settle = some d → c.move = some m → m.entry.changeId = some ch.id → x.position.last = some p →
        toward p m.target x.cp.db = .arrived → Quiet x →
        let disp : Disposition := if m.adjusted = none then .done else .doneAdjusted
        let why := m.adjusted.getD .noReason
        let items := ch.items.map (fun it =>
          if it.slot = i then { it with state := if m.adjusted = none then .done else .adjusted, reason := why }
          else if it.isGap = true then it else s.afterWaveThree it)
        ∃ t, exec (.settleExpiry i) s = .next t ∧ t.change = none ∧ OnlyWork s t
          ∧ (∀ it ∈ items, ∀ old ∈ ch.items, old.slot = it.slot → old.state = .pending →
            (t.slots.get it.slot).feeder = { (s.slots.get it.slot).feeder.took it with
                inhibits := (t.slots.get it.slot).feeder.inhibits }
              ∧ (it.clamped = true → (t.slots.get it.slot).conds.mem .envelope = true)
              ∧ (let f := (s.slots.get it.slot).feeder
                let f' := (t.slots.get it.slot).feeder
                f'.rb ≠ f.rb ∨ f'.mode ≠ f.mode ∨ f'.ls ≠ f.ls → t.isDirty (.wear it.slot) = true))
          ∧ (s.enabled ch.origin = true → (s.ports.get ch.origin).tx.length + 2 ≤ 64 →
            let tf := if m.entry.kind = .set ∨ m.entry.kind = .step then m.applied.getD c.tf else c.tf
            (t.ports.get ch.origin).tx = (s.ports.get ch.origin).tx
              ++ m.entry.finalTo i ch.origin disp why (.moveEnded m.applied tf)
              ++ (if ch.ack then
                [⟨ReqCode.applyRecipe.code, (outcomeOf items).1, (outcomeOf items).2, ch.tag, ch.reqno, 0xFF,
                  .changeItems ch.id ch.recipe (items.map (fun it => ⟨it.slot, it.state, it.reason, it.applied⟩))⟩] else []))

/-- ABORT_CHANGE and the expiry of the change timer end the change: its record, its queued entries and its moves are gone, the open items
are closed with reason ABORTED or TIMEOUT, the outcome follows from the items, and the final reply of the change carries both; the abort
answers with the outcome, behind the final replies (R147, R148, R149; the order of the steps is deduced, log 24). -/
def Obligations.ChangesEndWithTheirWork : Prop :=
  (∀ (s : State) (c : Change), s.phase = .running → s.change = some c →
      let closed := fun (why : Reason) => c.items.map (fun x =>
        match x.state with
        | .pending => { x with state := .skipped, reason := why }
        | .active => { x with state := .failed, reason := why }
        | _ => x)
      let gone := fun (s' t : State) => OnlyWork s' t ∧ t.change = none ∧ ∀ i,
        (∀ e ∈ (t.slots.get i).crusher.queue, e.changeId ≠ some c.id)
          ∧ ∀ m ∈ (t.slots.get i).crusher.move, m.entry.changeId ≠ some c.id
      let final := fun (why : Reason) => (if c.ack = true then
        [⟨ReqCode.applyRecipe.code, (outcomeOf (closed why)).1, (outcomeOf (closed why)).2, c.tag, c.reqno, 0xFF,
          .changeItems c.id c.recipe ((closed why).map (fun it => ⟨it.slot, it.state, it.reason, it.applied⟩))⟩] else [] : List Reply)
      let roomy := QueueLaw s ∧ s.enabled c.origin = true ∧ (s.ports.get c.origin).tx.length ≤ 22
      (∃ t, exec .changeTimerExpiry s = .next t ∧ gone s t
          ∧ (roomy → ∃ front, (t.ports.get c.origin).tx = (s.ports.get c.origin).tx ++ front ++ final .timeout))
        ∧ ∀ r : Request, Taken s .abortChange r → r.slot = 0xFF →
          ((byteAt r.payload 0).toNat = 0 → Refuses s .abortChange r .badValue)
            ∧ ((byteAt r.payload 0).toNat ≠ 0 → (byteAt r.payload 0).toNat ≠ c.id → Refuses s .abortChange r .notActive)
            ∧ (c.id ≠ 0 → (byteAt r.payload 0).toNat = c.id → c.origin ≠ r.port → r.port ≠ .plant →
              Refuses s .abortChange r .authority)
            ∧ (c.id ≠ 0 → (byteAt r.payload 0).toNat = c.id → c.origin = r.port ∨ r.port = .plant →
              let told : Reply := ⟨ReqCode.abortChange.code, .done, .noReason, r.tag, (s.ports.get r.port).reqno + 1, r.slot,
                .changeOutcome (outcomeOf (closed .aborted)).1 (outcomeOf (closed .aborted)).2⟩
              ∃ t, exec (.abortChange r) s = .next t ∧ gone (s.countRequest r.port) t
                ∧ (t.ports.get r.port).tx.getLast? = some told
                ∧ (roomy → ∃ front, (t.ports.get c.origin).tx
                    = (s.ports.get c.origin).tx ++ front ++ final .aborted ++ if c.origin = r.port then [told] else [])))
    ∧ (∀ (s : State) (r : Request), s.change = none → Taken s .abortChange r → r.slot = 0xFF →
      (byteAt r.payload 0).toNat ≠ 0 → Refuses s .abortChange r .notActive)
    ∧ ∀ items : List Item,
      let good := fun (x : Item) => x.state = .done ∨ x.state = .adjusted
      ((∀ x ∈ items, x.state = .done) → outcomeOf items = (.done, .noReason))
        ∧ ((∀ x ∈ items, good x) → (∃ x ∈ items, x.state = .adjusted) → (outcomeOf items).1 = .doneAdjusted)
        ∧ ((∃ x ∈ items, good x) → (∃ x ∈ items, ¬ good x) → (outcomeOf items).1 = .partialDone)
        ∧ (items ≠ [] → (∀ x ∈ items, ¬ good x) → (outcomeOf items).1 = .failed)
        ∧ (∀ a x b, items = a ++ x :: b → (∀ y ∈ a, good y) → ¬ good x → (outcomeOf items).2 = x.reason)

/-! ### Commissioning records and the store (chapters 1 and 12) -/

/-- WRITE_PARAMS: who may write in each lock mode; the bin thresholds from the plant, with the bin state fixed again; and a valid record
for an idle slot that keeps its kind replaces the working copy. Where it narrows a range, T_f, W or Rb is clamped, recorded and marked dirty,
and the final reply is DONE_ADJUSTED; W at a lowered WEAR_MAX meets the wear ceiling; a new linked feeder takes over the reasons the crusher
holds; a new area has its holder examined again; a level input taken out of use records LEVEL_INVALID on the feeders in LEVEL mode that
serve it (R115); and a parameter fault ends (R3, R9 to R15, R99, R130). A kind change: the slot takes its
new record, its new kind's working state, an empty condition set and the default mask, and its three records are dirty; of the other slots only
the linked feeders' reasons change; it is refused BUSY for a slot of the line change, and BAD_VALUE for one that another record or a recipe
names (R3, R10, R11, R16). Stated with no line change where an area changes (one change of holder, log 18). The model's choice, not the
rules': a power input taken out of use records no POWER_INVALID on the other slots (log 20); the parameter fault of a slot of kind NONE, whom
it admits and what its end marks dirty (log 27); and that a W above a WEAR_MAX that the write leaves as it is, which no run reaches, is
clamped too (log 28). -/
def Obligations.WriteParamsReplacesTheRecord : Prop :=
  (∀ (s : State) (r : Request), Taken s .writeParams r →
     let awaits := fun (id : RecId) (disp : Disposition) => s.replies ++ (if r.ackWanted then
       [⟨id, r.port, .writeParams, r.tag, (s.ports.get r.port).reqno + 1, r.slot, disp, .noReason⟩] else [])
     (r.slot = 0xFF →
         let t := thresholdsOf r.payload
         (r.port ≠ .plant → Refuses s .writeParams r .authority)
           ∧ (r.port = .plant → ¬ (t.empty ≤ t.low ∧ t.low ≤ t.high ∧ t.high ≤ t.full ∧ t.full ≤ 1000 ∧ t.hys ≤ 100) →
             Refuses s .writeParams r .badValue)
           ∧ (r.port = .plant → t.empty ≤ t.low → t.low ≤ t.high → t.high ≤ t.full → t.full ≤ 1000 → t.hys ≤ 100 →
             (s.isWriting .line = true → Refuses s .writeParams r .storeBusy)
               ∧ (s.isWriting .line = false →
                 let after := if s.bin.state = .unknown then BinState.unknown else t.plain s.bin.lastValid
                 exec (.writeParams r) s = .next (({ s with
                     bin := { s.bin with thresholds := t, state := after }
                     dirty := s.dirty ||| BitVec.twoPow 33 24
                     replies := awaits .line .done }.withReply .writeParams r .started .noReason .empty).announce
                   (if after = s.bin.state then []
                    else [⟨s.lineClock, none, .binState s.bin.state after (some s.bin.lastValid)⟩])))))
       ∧ ∀ i, slotOfByte r.slot = some i →
         let x := s.slots.get i
         let w := x.crusher.w
         let maintained := r.port = .plant ∧ x.lockout.state = true
         (x.lock = .frozen → Refuses s .writeParams r .locked)
           ∧ (x.lock = .commissioned → ¬ maintained → Refuses s .writeParams r .locked)
           ∧ (x.lock = .fixed → ¬ (x.paramFaulted = true ∧ maintained) → Refuses s .writeParams r .locked)
           ∧ (x.lock = .openMode → x.kind ≠ .unused → x.holder ≠ some r.port → Refuses s .writeParams r .authority)
           ∧ (x.lock = .openMode → x.kind = .unused → r.port ≠ .plant → Refuses s .writeParams r .authority)
           ∧ ((x.lock = .openMode ∧ (if x.kind = .unused then r.port = .plant else x.holder = some r.port))
               ∨ (x.lock = .commissioned ∧ maintained) ∨ (x.lock = .fixed ∧ x.paramFaulted = true ∧ maintained) →
             ∀ rec, recordOf r.payload = some rec → rec.kind = x.kind →
             (s.recordValid i rec = false → Refuses s .writeParams r .badValue)
               ∧ (s.recordValid i rec = true →
                 (x.writeBusy = true → Refuses s .writeParams r .notIdle)
                   ∧ (x.writeBusy = false → s.isWriting (.param i) = true → Refuses s .writeParams r .storeBusy)
                   ∧ (x.writeBusy = false → s.isWriting (.param i) = false →
                     let stored := fun (s' : State) (dirty : BitVec 33) =>
                       { s' with dirty := dirty, replies := awaits (.param i) .done }.withReply .writeParams r .started .noReason .empty
                     let d := s.dirty ||| BitVec.twoPow 33 (3 * i.val)
                     let framed := fun (t : State) (clamped : Prop) =>
                       t = { s with slots := t.slots, ports := t.ports, dirty := t.dirty, replies := t.replies }
                         ∧ PortsHeard (s.countRequest r.port) t
                         ∧ (t.ports.get r.port).tx = (s.ports.get r.port).tx
                           ++ [⟨ReqCode.writeParams.code, .started, .noReason, r.tag, (s.ports.get r.port).reqno + 1, r.slot, .empty⟩]
                         ∧ t.isDirty (.param i) = true ∧ (clamped → t.isDirty (.wear i) = true ∧ t.replies = awaits (.param i) .doneAdjusted)
                         ∧ (¬ clamped → t.replies = awaits (.param i) .done)
                         ∧ (x.paramFaulted = true → t.isDirty (.cal i) = true ∧ t.isDirty (.wear i) = true)
                         ∧ ∀ id, id ≠ .param i → id ≠ .cal i → id ≠ .wear i → t.isDirty id = s.isDirty id
                     (rec = .blank →
                         exec (.writeParams r) s = .next (stored (s.modSlot i (fun x => { x with unusedFault := false }))
                           (if x.unusedFault then d ||| BitVec.twoPow 33 (3 * i.val + 1) ||| BitVec.twoPow 33 (3 * i.val + 2) else d)))
                       ∧ (∀ k c, rec = .crusher k c → x.paramFaulted = false → c.linkedFeeder = x.cp.linkedFeeder → c.area = x.cp.area →
                         c.levelIn = x.cp.levelIn → c.powerIn = x.cp.powerIn → c.envMin ≤ x.crusher.tf → x.crusher.tf ≤ c.envMax →
                         w ≤ c.wearMax → exec (.writeParams r) s = .next (stored (s.modSlot i (fun x => { x with cp := c })) d))
                       ∧ (∀ f, rec = .feeder f → x.paramFaulted = false → f.area = x.fp.area → f.rMin ≤ x.feeder.rb →
                         x.feeder.rb ≤ f.rMax → exec (.writeParams r) s = .next (stored (s.modSlot i (fun x => { x with fp := f })) d))
                       ∧ (∀ k c, rec = .crusher k c → s.change = none →
                         (x.paramFaulted = true → c.autoTrim = false ∨ w < x.crusher.wAtMove + c.trimStep) →
                         let tf := if x.crusher.tf < c.envMin then c.envMin else if c.envMax < x.crusher.tf then c.envMax else x.crusher.tf
                         let worn := c.wearMax < w ∧ x.mask.mem .wearLimit = false
                         let motion : Motion :=
                           if x.paramFaulted = true then if worn ∨ x.crusher.wearBlock = true then .blocked .wearLimit else .idle
                           else if worn ∧ x.crusher.motion = .idle then .blocked .wearLimit else x.crusher.motion
                         let marked := worn ∧ (x.crusher.motion = .blocked .trampRepeat ∨ x.crusher.motion = .blocked .recoveryFail)
                         let input := fun (was is : Bool) (a : Analog) =>
                           if was = is then a else if is = true then .unread else { a with valid := false }
                         ∃ t, exec (.writeParams r) s = .next t ∧ framed t (tf ≠ x.crusher.tf ∨ c.wearMax < w)
                           ∧ (let y := t.slots.get i
                             let conds := if c.wearMax < w then x.conds.insert .wearLimit else x.conds
                             y = { x with
                                 cp := c, holder := if c.area = x.cp.area then x.holder else s.seatIn i c.area
                                 conds := if tf ≠ x.crusher.tf then conds.insert .envelope else conds
                                 level := input x.cp.levelIn c.levelIn x.level, power := input x.cp.powerIn c.powerIn x.power
                                 crusher := y.crusher, driver := y.driver, feeder := y.feeder }
                               ∧ y.crusher = { x.crusher with
                                   motion := motion, tf := tf, w := min w c.wearMax
                                   wAtMove := if c.wearMax < w then min x.crusher.wAtMove c.wearMax else x.crusher.wAtMove
                                   wearBlock := if x.paramFaulted = true then false
                                     else if marked then true else x.crusher.wearBlock
                                   travel := y.crusher.travel, settle := y.crusher.settle, suspension := y.crusher.suspension
                                   drainLimit := y.crusher.drainLimit, fixedDrain := y.crusher.fixedDrain })
                           ∧ (∀ f, (x.cp.linkedFeeder = some f → c.linkedFeeder ≠ some f →
                                 ∀ k, (t.slots.get f).feeder.inhibits.mem k = true ↔
                                   (s.slots.get f).feeder.inhibits.mem k = true ∧ ¬ ReasonHeld x k)
                             ∧ (c.linkedFeeder = some f →
                               ∀ k, (t.slots.get f).feeder.inhibits.mem k = true ↔
                                 (s.slots.get f).feeder.inhibits.mem k = true ∨ (x.cp.linkedFeeder ≠ some f ∧ ReasonHeld x k)
                                   ∨ (k = .calibrate ∧ motion = .blocked .wearLimit ∧ x.crusher.motion ≠ .blocked .wearLimit)))
                           ∧ ∀ j, j ≠ i →
                             let z := s.slots.get j
                             let z' := t.slots.get j
                             let lost := x.cp.levelIn = true ∧ c.levelIn = false ∧ x.level.valid = true ∧ z.kind = .feeder
                               ∧ z.fp.served = some i ∧ z.feeder.mode = .level
                             z' = { z with
                                 conds := if lost then z.conds.insert .levelInvalid else z.conds
                                 feeder := { z.feeder with inhibits := z'.feeder.inhibits, r := z'.feeder.r, rPrev := z'.feeder.rPrev,
                                                           seed := z'.feeder.seed } }
                               ∧ (x.cp.linkedFeeder ≠ some j → c.linkedFeeder ≠ some j → z'.feeder = z.feeder))
                       ∧ ∀ f, rec = .feeder f → s.change = none → x.crusher.queue = [] → x.crusher.move = none →
                         let rb := if x.feeder.rb < f.rMin then f.rMin else if f.rMax < x.feeder.rb then f.rMax else x.feeder.rb
                         ∃ t, exec (.writeParams r) s = .next t ∧ framed t (rb ≠ x.feeder.rb)
                           ∧ (t.slots.get i) = { x with
                               fp := f, holder := if f.area = x.fp.area then x.holder else s.seatIn i f.area
                               conds := if rb ≠ x.feeder.rb then x.conds.insert .envelope else x.conds
                               feeder := { x.feeder with rb := rb, paramFault := false } }
                           ∧ ∀ j, j ≠ i → t.slots.get j = s.slots.get j))))
    ∧ (∀ (s : State) (r : Request) (i : SlotId) (rec : Record), Taken s .writeParams r → slotOfByte r.slot = some i → r.slot ≠ 0xFF →
         let x := s.slots.get i
         x.lock = .openMode → (if x.kind = .unused then r.port = .plant else x.holder = some r.port) →
           recordOf r.payload = some rec → rec.kind ≠ x.kind →
           (s.inChange i = true → Refuses s .writeParams r .busy)
             ∧ (s.inChange i = false → s.linkedTo i = true ∨ s.inRecipe i = true → Refuses s .writeParams r .badValue)
             ∧ (s.inChange i = false → s.recordValid i rec = true → x.writeBusy = false → s.isWriting (.param i) = false →
               rec.kind ≠ .cone ∨ x.relief.raw = false →
               let was := if x.kind.isCrusher then x.cp.linkedFeeder else none
               let is := match rec with
                 | .crusher _ c => c.linkedFeeder
                 | _ => none
               ∃ t, exec (.writeParams r) s = .next t
                 ∧ (let y := t.slots.get i
                   y.kind = rec.kind ∧ y.lock = .openMode ∧ y.conds = 0 ∧ y.mask = rec.kind.defaultMask ∧ y.unusedFault = false
                     ∧ (∀ k c, rec = .crusher k c → y.cp = c ∧ y.crusher = Crusher.fresh c)
                     ∧ (∀ f, rec = .feeder f → y.fp = f ∧ y.feeder = Feeder.fresh f)
                     ∧ y.holder = (if rec = .blank then none
                         else if x.kind = .unused ∨ x.area ≠ rec.area then s.seatIn i rec.area else x.holder))
                 ∧ t = { s with slots := t.slots, ports := t.ports, dirty := t.dirty, replies := t.replies }
                 ∧ t.isDirty (.param i) = true ∧ t.isDirty (.cal i) = true ∧ t.isDirty (.wear i) = true
                 ∧ PortsHeard (s.countRequest r.port) t
                 ∧ (t.ports.get r.port).tx = (s.ports.get r.port).tx
                   ++ [⟨ReqCode.writeParams.code, .started, .noReason, r.tag, (s.ports.get r.port).reqno + 1, r.slot, .empty⟩]
                 ∧ t.replies = s.replies ++ (if r.ackWanted then
                   [⟨.param i, r.port, .writeParams, r.tag, (s.ports.get r.port).reqno + 1, r.slot, .done, .noReason⟩] else [])
                 ∧ ∀ j, j ≠ i →
                   let z := s.slots.get j
                   let z' := t.slots.get j
                   z' = { z with feeder := { z.feeder with inhibits := z'.feeder.inhibits, r := z'.feeder.r, rPrev := z'.feeder.rPrev,
                                                           seed := z'.feeder.seed } }
                     ∧ (was ≠ some j → is ≠ some j → z' = z)
                     ∧ (was = some j → is ≠ some j → ∀ k, z'.feeder.inhibits.mem k = true ↔
                       z.feeder.inhibits.mem k = true ∧ ¬ ReasonHeld x k)
                     ∧ (was ≠ some j → is = some j → ∀ k, z'.feeder.inhibits.mem k = true ↔
                       z.feeder.inhibits.mem k = true ∨ (k = .lockout ∧ x.lockout.state = true))))

/-- LOCK_PARAMS: the changes of mode that the table admits, from the plant, or from the holder to FROZEN; those to FIXED and back to OPEN
under the lockout input alone; a change to FROZEN keeps the mode it leaves (R119, R131). -/
def Obligations.LockParamsChangesTheMode : Prop :=
  ∀ (s : State) (r : Request) (i : SlotId) (target : LockMode), Taken s .lockParams r → slotOfByte r.slot = some i →
    let x := s.slots.get i
    let free := x.lock = .openMode ∧ target = .commissioned ∨ (x.lock = .openMode ∨ x.lock = .commissioned) ∧ target = .frozen
    let shut := x.lock = .commissioned ∧ target = .openMode ∨ (x.lock = .openMode ∨ x.lock = .commissioned) ∧ target = .fixed
    x.kind ≠ .unused → LockMode.ofByte (byteAt r.payload 0) = some target →
      (r.port ≠ .plant → x.holder = some r.port → target ≠ .frozen → Refuses s .lockParams r .authority)
        ∧ (r.port = .plant ∨ (x.holder = some r.port ∧ target = .frozen) →
          (¬ free → ¬ (shut ∧ x.lockout.state = true) → Refuses s .lockParams r .locked)
            ∧ (free ∨ (shut ∧ x.lockout.state = true) →
              (s.isWriting (.param i) = true → Refuses s .lockParams r .storeBusy)
                ∧ (s.isWriting (.param i) = false →
                  exec (.lockParams r) s = .next ({ s.modSlot i (fun x =>
                      { x with lock := target, preFreeze := if target = LockMode.frozen then x.lock else x.preFreeze }) with
                      dirty := s.dirty ||| BitVec.twoPow 33 (3 * i.val)
                      replies := s.replies ++ (if r.ackWanted then
                        [(⟨.param i, r.port, .lockParams, r.tag, (s.ports.get r.port).reqno + 1, r.slot, .done, .noReason⟩ : PendingReply)]
                        else []) }.withReply .lockParams r .started .noReason .empty))))

/-- The store: a write takes the lowest-numbered dirty record, one at a time, with the values of the working copy at its start and a new check
value over them; a completion stores both or, on a mismatch, records STORE_FAULT and keeps the old contents; and it answers the record's
waiting replies in order. A record is good when its check value is that of its contents (R172, R180 to R182; their layout in bytes, log 33, and
the check value a failed write leaves, log 12, are free). -/
def Obligations.TheStoreWritesDirtyRecords : Prop :=
  (∀ (v : Nonvolatile) (r : RecId), v.good r = true ↔ v.check r = crc (Config.storeLayout (v.image r)))
    ∧ ∀ s : State, s.phase = .running →
      (s.writing ≠ none ∨ s.dirty = 0 → exec .storeWriteStart s = .next s)
        ∧ (∀ r, s.writing = none → s.isDirty r = true → (∀ r', s.isDirty r' = true → r.number ≤ r'.number) →
          exec .storeWriteStart s = .next { s with
            dirty := s.dirty &&& ~~~ BitVec.twoPow 33 r.number
            writing := some ⟨r, s.image r, crc (Config.storeLayout (s.image r))⟩ })
        ∧ ∀ w, s.writing = some w →
          let mine := fun (p : Port) => s.replies.filter (fun x => x.record == w.record && x.port == p)
          let left := s.replies.filter (fun x => x.record != w.record)
          let answers := fun (t : State) (f : PendingReply → Disposition × Reason) =>
            ∀ p, s.enabled p = true → (s.ports.get p).tx.length + (mine p).length ≤ 64 →
              (t.ports.get p).tx = (s.ports.get p).tx
                ++ (mine p).map (fun x => ⟨x.code.code, (f x).1, (f x).2, x.tag, x.reqno, x.slot, .empty⟩)
          (∃ t, exec (.storeWriteComplete true) s = .next t
              ∧ t = { s with writing := none, store := t.store, replies := left, ports := t.ports }
              ∧ PortsHeard s t ∧ answers t (fun x => (x.disp, x.reason))
              ∧ (∀ u : State, w.image = u.image w.record → t.store.image w.record = w.image ∧ t.store.check w.record = w.check)
              ∧ ∀ r, r ≠ w.record → t.store.image r = s.store.image r ∧ t.store.check r = s.store.check r)
            ∧ ∃ t, exec (.storeWriteComplete false) s = .next t
              ∧ t = { s with writing := none, store := t.store, replies := left, ports := t.ports, slots := t.slots,
                             lineConds := t.lineConds, freeDraws := t.freeDraws }
              ∧ PortsHeard s t ∧ answers t (fun _ => (.failed, .storeFault))
              ∧ (∀ r, t.store.image r = s.store.image r ∧ (r ≠ w.record → t.store.check r = s.store.check r))
              ∧ (∀ i, t.slots.get i = { s.slots.get i with
                  conds := if w.record = .param i ∨ w.record = .cal i ∨ w.record = .wear i then
                      (s.slots.get i).conds.insert .storeFault
                    else (s.slots.get i).conds })
              ∧ t.lineConds = (match w.record with
                  | .line | .recipe _ => s.lineConds.insert .storeFault
                  | _ => s.lineConds)

/-! ### Power and LINE_RESET (R9, R61, R130, R182 to R184) -/

/-- After power-on: the ports, the line and the working state are fresh, each slot is settled from its own stored records and its links mended,
the bin thresholds and the recipes are loaded, the analog and position channels and the bin state are what the one scan found, and the store
keeps what it held when no write was under way. The end of start-up applies the selectors and what the scan found (R2, R6 to R9, R61, R96, R130,
R135, R161 to R165, R183). A loss of power leaves the store alone of the part, and of the store every record but the one being written; what
that one then holds is left open (R182; log 11). POWER_ON on a powered part is a loss of power first (log 13); what is deduced: the parameter
fault and the condition PARAM_FAULT of a slot left without a kind (log 27), W and W_at_move held within their ranges (log 28), and the links that
are mended (log 25). -/
def Obligations.PowerKeepsTheStoreAlone : Prop :=
  ((∀ (s : State) (scan : InputScan), ∃ t, exec (.powerOn scan) s = .next t
       ∧ t.phase = .startUp ∧ t.clock = 0 ∧ t.change = none ∧ t.lastChangeId = 0 ∧ t.hold = none ∧ t.lineConds = 0
       ∧ t.writing = none ∧ t.replies = [] ∧ (∀ p, t.ports.get p = .fresh)
       ∧ t.rateStrap = scan.rateStrap ∧ t.portBStrap = scan.portBStrap ∧ t.lineStop = ⟨!scan.lineStop, !scan.lineStop, none⟩
       ∧ t.selectorA = ⟨scan.selectorA, scan.selectorA, none⟩
       ∧ t.selectorB = ⟨scan.selectorB, !scan.portBStrap && scan.selectorB, none⟩
       ∧ (s.writing = none → t.store = s.store)
       ∧ (∀ n, t.recipes.get n = if t.store.good (.recipe n) then (t.store.recipes.get n).contents else none)
       ∧ (let read := fun (fs : Nat) (raw : BitVec 12) =>
           if 575 ≤ raw.toNat ∧ raw.toNat ≤ 3356 then (⟨true, min ((raw.toNat - 655) * fs / 2621) fs, some 0⟩ : Analog)
           else ⟨false, 0, some 0⟩
         (t.bin.thresholds = (if t.store.good .line then t.store.line.contents else .default)
             ∧ t.bin.input = read 1000 scan.bin ∧ t.bin.lastValid = t.bin.input.last
             ∧ t.bin.state = if t.bin.input.valid then t.bin.thresholds.plain t.bin.lastValid else .unknown)
           ∧ ∀ i,
             let x := t.slots.get i
             let found := scan.slots.get i
             let par := t.store.params.get i
             let cal := t.store.cals.get i
             let wear := t.store.wears.get i
             let parGood := t.store.good (.param i)
             let calGood := t.store.good (.cal i)
             let wearGood := t.store.good (.wear i)
             let good := parGood = true ∧ calGood = true ∧ wearGood = true
             let mended := fun (l : Option SlotId) => l.filter (fun j => (t.slots.get j).kind != .unused)
             x.holder = none ∧ x.mask = x.kind.defaultMask
               ∧ x.kind = (if parGood then par.contents.kind else .unused)
               ∧ (parGood = true →
                 x.cp = { par.contents.cp with linkedFeeder := mended par.contents.cp.linkedFeeder }
                   ∧ x.fp = { par.contents.fp with served := mended par.contents.fp.served })
               ∧ x.lock = (if parGood then
                   (if par.contents.lock = .frozen then par.contents.preFreeze else par.contents.lock) else .openMode)
               ∧ x.conds = (if good then 0 else CondSet.insert 0 .paramFault)
               ∧ (x.unusedFault = true ↔ x.kind = .unused ∧ ¬ good)
               ∧ x.lockout = ⟨!found.lockout, !found.lockout, none⟩
               ∧ x.relief = ⟨found.relief, x.kind == .cone && found.relief, none⟩
               ∧ x.running = ⟨found.running, x.kind == .feeder && found.running, none⟩
               ∧ x.level = (if x.kind.isCrusher ∧ x.cp.levelIn then read 1000 found.level else .unread)
               ∧ x.power = (if x.kind.isCrusher ∧ x.cp.powerIn then read 1500 found.power else .unread)
               ∧ (x.kind.isCrusher = true →
                 let heard := fun (a : PositionAnswer) =>
                   (⟨true, 0, some (if x.cp.inverted then 16383 - a.bits.toNat else a.bits.toNat), some 0⟩ : PosChannel)
                 x.position = (if found.position1.good then heard found.position1
                     else if found.position2.good then heard found.position2
                     else if found.position3.good then heard found.position3
                     else ⟨false, 3, none, some 0⟩)
                   ∧ x.crusher = { Crusher.fresh x.cp with
                     motion := if good then .idle else .blocked .paramFault
                     z := if calGood then cal.contents.z else x.cp.pHi
                     lastCal := if calGood then cal.contents.lastCal else none
                     tf := if wearGood then clampNat x.cp.envMin x.cp.envMax wear.contents.tf else x.cp.envMax
                     w := if wearGood then min wear.contents.w x.cp.wearMax else 0
                     acc := if wearGood then wear.contents.accHigh * 256 else 0
                     tonnes := if wearGood then wear.contents.tonnes else 0
                     wAtMove := if wearGood then min wear.contents.wAtMove (min wear.contents.w x.cp.wearMax) else 0 }
                   ∧ x.driver = .rest)
               ∧ (x.kind = .feeder →
                 x.feeder = { Feeder.fresh x.fp with
                     paramFault := if good then false else true
                     rb := if wearGood then clampNat x.fp.rMin x.fp.rMax wear.contents.rb else x.fp.rMin
                     mode := if wearGood then wear.contents.mode else .fixed
                     ls := if wearGood then wear.contents.ls else 500 })))
     ∧ ∀ s : State,
       (s.phase ≠ .startUp → exec .startUpEnd s = .next s)
         ∧ (s.phase = .startUp →
           ∃ t, exec .startUpEnd s = .next t ∧ t = { s with phase := .running, slots := t.slots, ports := t.ports }
             ∧ ∀ i,
               let x := s.slots.get i
               (t.slots.get i).holder = s.localStation i ∧ (t.slots.get i).kind = x.kind
                 ∧ (x.kind.isCrusher = true → x.lockout.state = true → OnLinked t i (fun f => f.inhibits.lockout = true))
                 ∧ (x.kind = .cone → x.relief.state = true → (∀ b, x.crusher.motion ≠ .blocked b) →
                   (t.slots.get i).crusher.motion = .relief)
                 ∧ (x.kind = .feeder → x.fp.binRel ≠ .neither → s.bin.state = .unknown →
                   (t.slots.get i).conds.mem .binInvalid = true)))
    ∧ (∀ s : State,
         (s.phase = .off → exec .powerLoss s = .next s)
           ∧ (s.phase ≠ .off →
             (s.writing = none →
                 exec .powerLoss s = .next { State.reset with
                   phase := .off, store := s.store, freeDraws := s.freeDraws, pending := s.pending })
               ∧ ∀ w, s.writing = some w →
                 ∃ t, exec .powerLoss s = .next t
                   ∧ t = { State.reset with phase := .off, store := t.store, freeDraws := s.freeDraws + 1, pending := s.pending }
                   ∧ ∀ r, r ≠ w.record → t.store.image r = s.store.image r ∧ t.store.check r = s.store.check r))

/-- LINE_RESET ends the coordination state of the line in silence and keeps the settings, the blocks, the relief episodes and the store;
its one reply carries the number it took, and every port counts from 0 again; of the inhibit reasons only DRAIN and CALIBRATE leave a feeder;
the check of the SLOT byte, log 10 (R8, R61, R75, R94, R108, R118, R151, R154, R179, R184). -/
def Obligations.LineResetKeepsTheSettings : Prop :=
  ∀ (s : State) (r : Request), Taken s .lineReset r →
    (r.slot ≠ 0xFF → Refuses s .lineReset r .badSlot)
      ∧ (r.slot = 0xFF → r.port ≠ .plant → Refuses s .lineReset r .authority)
      ∧ (r.slot = 0xFF → r.port = .plant →
        ∃ t, exec (.lineReset r) s = .next t
          ∧ t = { s with change := none, hold := none, lineConds := 0, replies := [], slots := t.slots, ports := t.ports }
          ∧ (∀ p, t.ports.get p = { s.ports.get p with
              reqno := 0, notices := [], overrun := false, subs := NoticeSet.every, noticeTurn := false, note := none,
              tx := if p = .plant then [⟨ReqCode.lineReset.code, .done, .noReason, r.tag, (s.ports.get .plant).reqno + 1, r.slot, .empty⟩]
                else [] })
          ∧ ∀ i,
            let x := s.slots.get i
            let c := x.crusher
            let y := t.slots.get i
            y = { x with holder := s.localStation i, conds := 0, mask := x.kind.defaultMask, crusher := y.crusher,
                         feeder := y.feeder, driver := y.driver }
              ∧ (y.feeder.inhibits.relief = x.feeder.inhibits.relief
                ∧ y.feeder.inhibits.recoveryDelay = x.feeder.inhibits.recoveryDelay
                ∧ y.feeder.inhibits.lockout = x.feeder.inhibits.lockout)
              ∧ (x.kind = .feeder → y.feeder = { x.feeder with
                    run := .stopped, r := 0, rPrev := 0, seed := true
                    regTimer := none, confirmTimer := none, inhibits := y.feeder.inhibits })
              ∧ (x.kind.isCrusher = true →
                (c.motion = .idle ∨ (∃ b, c.motion = .blocked b) →
                    c.episode = none → y.crusher = { c with queue := [], move := none, wearBlock := false })
                  ∧ (c.motion = .draining ∨ c.motion = .moving ∨ c.motion = .settling ∨ c.motion = .suspended
                      ∨ c.motion = .calibrating → c.episode = none →
                    y.crusher = { c with motion := .idle, queue := [], move := none, cal := none, wearBlock := false,
                                         travel := none, settle := none, suspension := none, drainLimit := none,
                                         fixedDrain := none }
                      ∧ y.driver.cmd = .hold ∧ y.driver.out = none
                      ∧ (x.kind = .jaw → c.motion ≠ .calibrating → OnLinked t i (fun f => f.inhibits.drain = false))
                      ∧ (c.motion = .calibrating → OnLinked t i (fun f => f.inhibits.calibrate = false)))
                  ∧ (∀ e, c.motion = .relief ∨ c.motion = .recovering → c.episode = some e →
                    y.crusher = { c with queue := [], move := none, wearBlock := false,
                                         episode := some { e with returnTo := .idle } }
                      ∧ (c.motion = .recovering → y.driver = x.driver))))

/-! ### Conditions, masks and notices (chapter 9) -/

/-- SET_MASK and CLEAR_MASK change the masks of their slots in the kinds of each slot's scope; masking WEAR_LIMIT clears the wear-block
mark, also where it is already masked, which is the model's choice (log 54); the checks come in the order BAD_SLOT, AUTHORITY or LOCAL,
BAD_VALUE (R82, R154, R155). -/
def Obligations.MasksTakeTheKindsInScope : Prop :=
  ∀ (s : State) (r : Request) (add : Bool), r.slot = 0xFF →
    let code : ReqCode := if add then .setMask else .clearMask
    let l := slotIds.filter (fun i => (byteAt r.payload 0).getLsbD i.val)
    let kinds := kindSetAt r.payload 1
    Taken s code r →
      ((∃ i ∈ l, (s.slots.get i).kind = .unused) → Refuses s code r .badSlot)
        ∧ (∀ i, (∀ j ∈ l, (s.slots.get j).kind ≠ .unused) → FirstNotHeld s r l i → Refuses s code r (s.awayReason r.port i))
        ∧ ((∀ i ∈ l, (s.slots.get i).kind ≠ .unused ∧ (s.slots.get i).holder = some r.port) →
          (l = [] ∨ kinds = 0 ∨ 256 ≤ kinds → Refuses s code r .badValue)
            ∧ (l ≠ [] → kinds ≠ 0 → kinds < 256 →
              let set : CondSet := BitVec.ofNat 17 kinds
              let masked := fun (x : Slot) =>
                let scope := set &&& x.kind.maskable
                { x with mask := if add then x.mask ||| scope else x.mask &&& ~~~ scope
                         crusher := { x.crusher with wearBlock := x.crusher.wearBlock && !(add && scope.mem .wearLimit) } }
              exec (code.command r) s = .next
                ({ s with slots := PerSlot.of (fun i => if i ∈ l then masked (s.slots.get i) else s.slots.get i) }.withReply
                  code r .done .noReason (.masks (l.map (fun i => (i, (masked (s.slots.get i)).mask)))))))

/-- CLEAR_CONDITIONS empties the sets it names, the line set from the plant alone, and nothing else; its checks come in the order BAD_VALUE,
BAD_SLOT, AUTHORITY or LOCAL; SUBSCRIBE replaces the sender's own set and is refused BAD_VALUE for a code that is no kind (R156, R158; the
line mark is on when not 0, log 9). The summaries always follow the condition sets: FAULT for a fault kind, else WARNING for a maskable
kind, else INFO for HISTORY_WRAP, else CLEAR; and the line summary is the most severe of the slots' and the line set's (R153). -/
def Obligations.ConditionsAndSubscriptions : Prop :=
  (∀ (s : State) (r : Request), r.slot = 0xFF →
     (Taken s .clearConditions r →
         let l := slotIds.filter (fun i => (byteAt r.payload 0).getLsbD i.val)
         let line := byteAt r.payload 1 ≠ 0
         (l = [] → ¬ line → Refuses s .clearConditions r .badValue)
           ∧ ((∃ i ∈ l, (s.slots.get i).kind = .unused) → Refuses s .clearConditions r .badSlot)
           ∧ (∀ i, (∀ j ∈ l, (s.slots.get j).kind ≠ .unused) → FirstNotHeld s r l i →
             Refuses s .clearConditions r (s.awayReason r.port i))
           ∧ ((∀ i ∈ l, (s.slots.get i).kind ≠ .unused ∧ (s.slots.get i).holder = some r.port) →
             (line → r.port ≠ .plant → Refuses s .clearConditions r .authority)
               ∧ (l ≠ [] ∨ line → ¬ line ∨ r.port = .plant →
                 exec (.clearConditions r) s = .next
                   ({ s with lineConds := if line then 0 else s.lineConds
                             slots := PerSlot.of (fun i =>
                               if i ∈ l then { s.slots.get i with conds := 0 } else s.slots.get i) }.withReply
                     .clearConditions r .done .noReason .empty))))
       ∧ (Taken s .subscribe r →
         let codes := wordAt r.payload 0
         let set : NoticeSet := BitVec.ofNat 16 codes
         ((∃ k, set.getLsbD k = true ∧ (k = 0 ∨ 9 < k)) → Refuses s .subscribe r .badValue)
           ∧ ((∀ k, set.getLsbD k = true → 1 ≤ k ∧ k ≤ 9) →
             exec (.subscribe r) s = .next ((s.modPort r.port (fun q => { q with subs := set })).withReply
               .subscribe r .done .noReason (.subscription set)))))
    ∧ ((∀ x : Slot,
           let fault := ∃ k : Cond, x.conds.mem k = true ∧ k.cls = .fault
           let warning := ∃ k : Cond, x.conds.mem k = true ∧ k.cls = .maskable
           (fault → x.summary = .fault) ∧ (¬ fault → warning → x.summary = .warning)
             ∧ (¬ fault → ¬ warning → x.conds.mem .historyWrap = true → x.summary = .info)
             ∧ (¬ fault → ¬ warning → x.conds.mem .historyWrap = false → x.summary = .clear))
         ∧ ∀ s : State,
           (∀ i, (s.slots.get i).summary.rank ≤ s.lineSummary.rank) ∧ s.lineConds.summary.rank ≤ s.lineSummary.rank
             ∧ ((∃ i, s.lineSummary = (s.slots.get i).summary) ∨ s.lineSummary = s.lineConds.summary))

/-! ### Discrete inputs and drivers (R165, R167, R168) -/

/-- A raw level that differs from the debounced state starts the 50 ms timer of an input in use, and a return to it stops the timer; the
running feedback that asserts has no consumer. Before the end of start-up an input keeps the state that the scan gave it: an expiry that falls
due then stands, and is taken once start-up has ended (R62, R183; deduced, log 14). A driver never turns from one direction straight to the other; a reversal waits for the
300 ms dwell, at whose expiry the standing command is applied (R165, R167, R168). -/
def Obligations.InputsDebounceAndDrivesDwell : Prop :=
  (∀ (s : State) (k : DiscreteInput) (closed : Bool), s.phase ≠ .off →
      let d := s.discrete k
      let level := match k with
        | .lockout _ | .lineStop => !closed
        | _ => closed
      exec (.discreteInputChange k closed) s =
        if level = d.raw then .next s
        else if level = d.state ∨ s.discreteInUse k = false then .next (s.setDiscrete k ⟨level, d.state, none⟩)
        else .next (s.setDiscrete k ⟨level, d.state, some (s.clock + 50)⟩))
    ∧ (∀ (s : State) (k : DiscreteInput), s.phase ≠ .running →
      exec (.debounceExpiry k) s = .next (((s.discrete k).timer.map s.reach).getD s)
        ∧ ∀ closed t, exec (.discreteInputChange k closed) s = .next t → (t.discrete k).state = (s.discrete k).state)
    ∧ (∀ (s : State) (i : SlotId) (e : Nat), s.phase = .running → (s.slots.get i).running = ⟨true, false, some e⟩ →
      exec (.debounceExpiry (.running i)) s = .next ((s.reach e).setDiscrete (.running i) ⟨true, true, none⟩))
    ∧ (∀ (s : State) (i : SlotId) (e : Nat), s.phase = .running → (s.slots.get i).driver.dwell = some e →
      exec (.dwellExpiry i) s = .next ((s.reach e).modSlot i (fun x =>
        { x with driver := { x.driver with dwell := none }.settle (max s.clock e) x.position })))
    ∧ ∀ (v : Driver) (now : Nat) (pos : PosChannel) (a b : Dir), a ≠ b →
      (v.out = some a →
          (v.settle now pos).out ≠ some b
            ∧ ((v.settle now pos).out = none →
              (v.settle now pos).last = some a ∧ (v.settle now pos).dwell = some (now + 300)))
        ∧ (v.out = none → v.last = some a → v.dwell ≠ none → (v.settle now pos).out ≠ some b)
        ∧ (v.out = none → v.last = some a → v.dwell = none → v.cmd.wanted pos = some b → (v.settle now pos).out = some b)
        ∧ (v.out = none → v.last = some a → v.cmd.wanted pos = some a → (v.settle now pos).out = some a)
end

