-- ==== Sys2Proof/Laws/State.lean ====
section
/-! SUPPORT. The tables of slots and ports, and what each update of the state leaves in each field, true by unfolding: simp lemmas, so
that no later proof unfolds a record update. -/

namespace Sys2Proof

/-! ### Tables -/

@[simp] theorem PerSlot.get_set_self {α : Type} (t : PerSlot α) (i : SlotId) (x : α) : (t.set i x).get i = x := by
  fin_cases i <;> rfl

@[simp] theorem PerSlot.get_set_ne {α : Type} (t : PerSlot α) {i j : SlotId} (x : α) (h : j ≠ i) : (t.set i x).get j = t.get j := by
  fin_cases i <;> fin_cases j <;> first | rfl | exact absurd rfl h

theorem PerSlot.get_set {α : Type} (t : PerSlot α) (i j : SlotId) (x : α) : (t.set i x).get j = if j = i then x else t.get j := by
  split
  · subst_vars; simp
  · rename_i h; simp [h]

@[simp] theorem PerSlot.get_of {α : Type} (f : SlotId → α) (i : SlotId) : (PerSlot.of f).get i = f i := by
  fin_cases i <;> rfl

@[simp] theorem PerSlot.get_all {α : Type} (x : α) (i : SlotId) : (PerSlot.all x).get i = x := by
  fin_cases i <;> rfl

theorem PerSlot.ext_get {α : Type} {a b : PerSlot α} (h : ∀ i, a.get i = b.get i) : a = b := by
  cases a; cases b
  simp only [PerSlot.mk.injEq]
  exact ⟨h 0, h 1, h 2, h 3, h 4, h 5, h 6, h 7⟩

@[simp] theorem PerSlot.set_get {α : Type} (t : PerSlot α) (i : SlotId) : t.set i (t.get i) = t :=
  PerSlot.ext_get (fun j => by rw [PerSlot.get_set]; split <;> simp_all)

@[simp] theorem PerSlot.set_set {α : Type} (t : PerSlot α) (i : SlotId) (x y : α) : (t.set i x).set i y = t.set i y :=
  PerSlot.ext_get (fun j => by simp only [PerSlot.get_set]; split <;> rfl)

@[simp] theorem PerSlot.of_get {α : Type} (t : PerSlot α) : PerSlot.of t.get = t := PerSlot.ext_get (fun i => by simp)

@[simp] theorem mem_slotIds (i : SlotId) : i ∈ slotIds := by fin_cases i <;> decide

@[simp] theorem PerPort.get_set_self {α : Type} (t : PerPort α) (p : Port) (x : α) : (t.set p x).get p = x := by cases p <;> rfl

@[simp] theorem PerPort.get_set_ne {α : Type} (t : PerPort α) {p q : Port} (x : α) (h : q ≠ p) : (t.set p x).get q = t.get q := by
  cases p <;> cases q <;> first | rfl | exact absurd rfl h

theorem PerPort.get_set {α : Type} (t : PerPort α) (p q : Port) (x : α) : (t.set p x).get q = if q = p then x else t.get q := by
  split
  · subst_vars; simp
  · rename_i h; simp [h]

@[simp] theorem PerPort.get_of {α : Type} (f : Port → α) (p : Port) : (PerPort.of f).get p = f p := by cases p <;> rfl

theorem PerPort.ext_get {α : Type} {a b : PerPort α} (h : ∀ p, a.get p = b.get p) : a = b := by
  cases a; cases b
  simp only [PerPort.mk.injEq]
  exact ⟨h .plant, h .stnA, h .stnB⟩

@[simp] theorem PerPort.set_get {α : Type} (t : PerPort α) (p : Port) : t.set p (t.get p) = t :=
  PerPort.ext_get (fun q => by rw [PerPort.get_set]; split <;> simp_all)

@[simp] theorem PerPort.set_set {α : Type} (t : PerPort α) (p : Port) (x y : α) : (t.set p x).set p y = t.set p y :=
  PerPort.ext_get (fun q => by simp only [PerPort.get_set]; split <;> rfl)

@[simp] theorem PerPort.of_get {α : Type} (t : PerPort α) : PerPort.of t.get = t := PerPort.ext_get (fun p => by simp)

end Sys2Proof

namespace Sys2Proof.Machine

open Sys2Proof

/-! ### One slot changed -/

@[simp] theorem State.modSlot_phase (s : State) (i : SlotId) (f : Slot → Slot) : (s.modSlot i f).phase = s.phase := rfl
@[simp] theorem State.modSlot_clock (s : State) (i : SlotId) (f : Slot → Slot) : (s.modSlot i f).clock = s.clock := rfl
@[simp] theorem State.modSlot_bin (s : State) (i : SlotId) (f : Slot → Slot) : (s.modSlot i f).bin = s.bin := rfl
@[simp] theorem State.modSlot_lineStop (s : State) (i : SlotId) (f : Slot → Slot) : (s.modSlot i f).lineStop = s.lineStop := rfl
@[simp] theorem State.modSlot_selectorA (s : State) (i : SlotId) (f : Slot → Slot) : (s.modSlot i f).selectorA = s.selectorA := rfl
@[simp] theorem State.modSlot_selectorB (s : State) (i : SlotId) (f : Slot → Slot) : (s.modSlot i f).selectorB = s.selectorB := rfl
@[simp] theorem State.modSlot_rateStrap (s : State) (i : SlotId) (f : Slot → Slot) : (s.modSlot i f).rateStrap = s.rateStrap := rfl
@[simp] theorem State.modSlot_portBStrap (s : State) (i : SlotId) (f : Slot → Slot) : (s.modSlot i f).portBStrap = s.portBStrap := rfl
@[simp] theorem State.modSlot_hold (s : State) (i : SlotId) (f : Slot → Slot) : (s.modSlot i f).hold = s.hold := rfl
@[simp] theorem State.modSlot_change (s : State) (i : SlotId) (f : Slot → Slot) : (s.modSlot i f).change = s.change := rfl
@[simp] theorem State.modSlot_lastChangeId (s : State) (i : SlotId) (f : Slot → Slot) : (s.modSlot i f).lastChangeId = s.lastChangeId := rfl
@[simp] theorem State.modSlot_lineConds (s : State) (i : SlotId) (f : Slot → Slot) : (s.modSlot i f).lineConds = s.lineConds := rfl
@[simp] theorem State.modSlot_ports (s : State) (i : SlotId) (f : Slot → Slot) : (s.modSlot i f).ports = s.ports := rfl
@[simp] theorem State.modSlot_store (s : State) (i : SlotId) (f : Slot → Slot) : (s.modSlot i f).store = s.store := rfl
@[simp] theorem State.modSlot_dirty (s : State) (i : SlotId) (f : Slot → Slot) : (s.modSlot i f).dirty = s.dirty := rfl
@[simp] theorem State.modSlot_writing (s : State) (i : SlotId) (f : Slot → Slot) : (s.modSlot i f).writing = s.writing := rfl
@[simp] theorem State.modSlot_replies (s : State) (i : SlotId) (f : Slot → Slot) : (s.modSlot i f).replies = s.replies := rfl
@[simp] theorem State.modSlot_recipes (s : State) (i : SlotId) (f : Slot → Slot) : (s.modSlot i f).recipes = s.recipes := rfl
@[simp] theorem State.modSlot_freeDraws (s : State) (i : SlotId) (f : Slot → Slot) : (s.modSlot i f).freeDraws = s.freeDraws := rfl
@[simp] theorem State.modSlot_pending (s : State) (i : SlotId) (f : Slot → Slot) : (s.modSlot i f).pending = s.pending := rfl

@[simp] theorem State.modSlot_slot_self (s : State) (i : SlotId) (f : Slot → Slot) :
    (s.modSlot i f).slots.get i = f (s.slots.get i) := by simp [State.modSlot]

@[simp] theorem State.modSlot_slot_ne (s : State) {i j : SlotId} (f : Slot → Slot) (h : j ≠ i) :
    (s.modSlot i f).slots.get j = s.slots.get j := by simp [State.modSlot, h]

@[simp] theorem State.modSlot_enabled (s : State) (i : SlotId) (f : Slot → Slot) (p : Port) :
    (s.modSlot i f).enabled p = s.enabled p := by cases p <;> rfl

@[simp] theorem State.modSlot_modSlot (s : State) (i : SlotId) (f g : Slot → Slot) :
    (s.modSlot i f).modSlot i g = s.modSlot i (fun x => g (f x)) := by simp [State.modSlot]

/-! ### One port changed -/

@[simp] theorem State.modPort_phase (s : State) (p : Port) (f : PortState → PortState) : (s.modPort p f).phase = s.phase := rfl
@[simp] theorem State.modPort_clock (s : State) (p : Port) (f : PortState → PortState) : (s.modPort p f).clock = s.clock := rfl
@[simp] theorem State.modPort_slots (s : State) (p : Port) (f : PortState → PortState) : (s.modPort p f).slots = s.slots := rfl
@[simp] theorem State.modPort_bin (s : State) (p : Port) (f : PortState → PortState) : (s.modPort p f).bin = s.bin := rfl
@[simp] theorem State.modPort_lineStop (s : State) (p : Port) (f : PortState → PortState) : (s.modPort p f).lineStop = s.lineStop := rfl
@[simp] theorem State.modPort_selectorA (s : State) (p : Port) (f : PortState → PortState) : (s.modPort p f).selectorA = s.selectorA := rfl
@[simp] theorem State.modPort_selectorB (s : State) (p : Port) (f : PortState → PortState) : (s.modPort p f).selectorB = s.selectorB := rfl
@[simp] theorem State.modPort_rateStrap (s : State) (p : Port) (f : PortState → PortState) : (s.modPort p f).rateStrap = s.rateStrap := rfl
@[simp] theorem State.modPort_portBStrap (s : State) (p : Port) (f : PortState → PortState) : (s.modPort p f).portBStrap = s.portBStrap := rfl
@[simp] theorem State.modPort_hold (s : State) (p : Port) (f : PortState → PortState) : (s.modPort p f).hold = s.hold := rfl
@[simp] theorem State.modPort_change (s : State) (p : Port) (f : PortState → PortState) : (s.modPort p f).change = s.change := rfl
@[simp] theorem State.modPort_lastChangeId (s : State) (p : Port) (f : PortState → PortState) : (s.modPort p f).lastChangeId = s.lastChangeId := rfl
@[simp] theorem State.modPort_lineConds (s : State) (p : Port) (f : PortState → PortState) : (s.modPort p f).lineConds = s.lineConds := rfl
@[simp] theorem State.modPort_store (s : State) (p : Port) (f : PortState → PortState) : (s.modPort p f).store = s.store := rfl
@[simp] theorem State.modPort_dirty (s : State) (p : Port) (f : PortState → PortState) : (s.modPort p f).dirty = s.dirty := rfl
@[simp] theorem State.modPort_writing (s : State) (p : Port) (f : PortState → PortState) : (s.modPort p f).writing = s.writing := rfl
@[simp] theorem State.modPort_replies (s : State) (p : Port) (f : PortState → PortState) : (s.modPort p f).replies = s.replies := rfl
@[simp] theorem State.modPort_recipes (s : State) (p : Port) (f : PortState → PortState) : (s.modPort p f).recipes = s.recipes := rfl
@[simp] theorem State.modPort_freeDraws (s : State) (p : Port) (f : PortState → PortState) : (s.modPort p f).freeDraws = s.freeDraws := rfl
@[simp] theorem State.modPort_pending (s : State) (p : Port) (f : PortState → PortState) : (s.modPort p f).pending = s.pending := rfl

@[simp] theorem State.modPort_port_self (s : State) (p : Port) (f : PortState → PortState) :
    (s.modPort p f).ports.get p = f (s.ports.get p) := by simp [State.modPort]

@[simp] theorem State.modPort_port_ne (s : State) {p q : Port} (f : PortState → PortState) (h : q ≠ p) :
    (s.modPort p f).ports.get q = s.ports.get q := by simp [State.modPort, h]

@[simp] theorem State.modPort_enabled (s : State) (p : Port) (f : PortState → PortState) (q : Port) :
    (s.modPort p f).enabled q = s.enabled q := by cases q <;> rfl

@[simp] theorem State.modPort_modPort (s : State) (p : Port) (f g : PortState → PortState) :
    (s.modPort p f).modPort p g = s.modPort p (fun q => g (f q)) := by simp [State.modPort]

/-! ### The clock moved on -/

@[simp] theorem State.reach_phase (s : State) (t : Nat) : (s.reach t).phase = s.phase := rfl
@[simp] theorem State.reach_slots (s : State) (t : Nat) : (s.reach t).slots = s.slots := rfl
@[simp] theorem State.reach_bin (s : State) (t : Nat) : (s.reach t).bin = s.bin := rfl
@[simp] theorem State.reach_lineStop (s : State) (t : Nat) : (s.reach t).lineStop = s.lineStop := rfl
@[simp] theorem State.reach_selectorA (s : State) (t : Nat) : (s.reach t).selectorA = s.selectorA := rfl
@[simp] theorem State.reach_selectorB (s : State) (t : Nat) : (s.reach t).selectorB = s.selectorB := rfl
@[simp] theorem State.reach_rateStrap (s : State) (t : Nat) : (s.reach t).rateStrap = s.rateStrap := rfl
@[simp] theorem State.reach_portBStrap (s : State) (t : Nat) : (s.reach t).portBStrap = s.portBStrap := rfl
@[simp] theorem State.reach_hold (s : State) (t : Nat) : (s.reach t).hold = s.hold := rfl
@[simp] theorem State.reach_change (s : State) (t : Nat) : (s.reach t).change = s.change := rfl
@[simp] theorem State.reach_lastChangeId (s : State) (t : Nat) : (s.reach t).lastChangeId = s.lastChangeId := rfl
@[simp] theorem State.reach_lineConds (s : State) (t : Nat) : (s.reach t).lineConds = s.lineConds := rfl
@[simp] theorem State.reach_ports (s : State) (t : Nat) : (s.reach t).ports = s.ports := rfl
@[simp] theorem State.reach_store (s : State) (t : Nat) : (s.reach t).store = s.store := rfl
@[simp] theorem State.reach_dirty (s : State) (t : Nat) : (s.reach t).dirty = s.dirty := rfl
@[simp] theorem State.reach_writing (s : State) (t : Nat) : (s.reach t).writing = s.writing := rfl
@[simp] theorem State.reach_replies (s : State) (t : Nat) : (s.reach t).replies = s.replies := rfl
@[simp] theorem State.reach_recipes (s : State) (t : Nat) : (s.reach t).recipes = s.recipes := rfl
@[simp] theorem State.reach_freeDraws (s : State) (t : Nat) : (s.reach t).freeDraws = s.freeDraws := rfl
@[simp] theorem State.reach_pending (s : State) (t : Nat) : (s.reach t).pending = s.pending := rfl

@[simp] theorem State.reach_clock (s : State) (t : Nat) : (s.reach t).clock = max s.clock t := rfl

@[simp] theorem State.reach_enabled (s : State) (t : Nat) (p : Port) : (s.reach t).enabled p = s.enabled p := by cases p <;> rfl

/-! ### A request counted -/

@[simp] theorem State.countRequest_phase (s : State) (p : Port) : (s.countRequest p).phase = s.phase := rfl
@[simp] theorem State.countRequest_clock (s : State) (p : Port) : (s.countRequest p).clock = s.clock := rfl
@[simp] theorem State.countRequest_slots (s : State) (p : Port) : (s.countRequest p).slots = s.slots := rfl
@[simp] theorem State.countRequest_bin (s : State) (p : Port) : (s.countRequest p).bin = s.bin := rfl
@[simp] theorem State.countRequest_lineStop (s : State) (p : Port) : (s.countRequest p).lineStop = s.lineStop := rfl
@[simp] theorem State.countRequest_selectorA (s : State) (p : Port) : (s.countRequest p).selectorA = s.selectorA := rfl
@[simp] theorem State.countRequest_selectorB (s : State) (p : Port) : (s.countRequest p).selectorB = s.selectorB := rfl
@[simp] theorem State.countRequest_rateStrap (s : State) (p : Port) : (s.countRequest p).rateStrap = s.rateStrap := rfl
@[simp] theorem State.countRequest_portBStrap (s : State) (p : Port) : (s.countRequest p).portBStrap = s.portBStrap := rfl
@[simp] theorem State.countRequest_hold (s : State) (p : Port) : (s.countRequest p).hold = s.hold := rfl
@[simp] theorem State.countRequest_change (s : State) (p : Port) : (s.countRequest p).change = s.change := rfl
@[simp] theorem State.countRequest_lastChangeId (s : State) (p : Port) : (s.countRequest p).lastChangeId = s.lastChangeId := rfl
@[simp] theorem State.countRequest_lineConds (s : State) (p : Port) : (s.countRequest p).lineConds = s.lineConds := rfl
@[simp] theorem State.countRequest_store (s : State) (p : Port) : (s.countRequest p).store = s.store := rfl
@[simp] theorem State.countRequest_dirty (s : State) (p : Port) : (s.countRequest p).dirty = s.dirty := rfl
@[simp] theorem State.countRequest_writing (s : State) (p : Port) : (s.countRequest p).writing = s.writing := rfl
@[simp] theorem State.countRequest_replies (s : State) (p : Port) : (s.countRequest p).replies = s.replies := rfl
@[simp] theorem State.countRequest_recipes (s : State) (p : Port) : (s.countRequest p).recipes = s.recipes := rfl
@[simp] theorem State.countRequest_freeDraws (s : State) (p : Port) : (s.countRequest p).freeDraws = s.freeDraws := rfl
@[simp] theorem State.countRequest_pending (s : State) (p : Port) : (s.countRequest p).pending = s.pending := rfl

@[simp] theorem State.countRequest_port (s : State) (p : Port) :
    (s.countRequest p).ports.get p = { s.ports.get p with reqno := (s.ports.get p).reqno + 1 } := by simp [State.countRequest]

@[simp] theorem State.countRequest_port_ne (s : State) {p q : Port} (h : q ≠ p) :
    (s.countRequest p).ports.get q = s.ports.get q := by simp [State.countRequest, h]

@[simp] theorem State.countRequest_enabled (s : State) (p q : Port) : (s.countRequest p).enabled q = s.enabled q := by
  cases q <;> rfl

/-! ### A reply joined -/

@[simp] theorem State.withReply_phase (s : State) (c : ReqCode) (r : Request) (d : Disposition) (why : Reason) (b : ReplyBody) : (s.withReply c r d why b).phase = s.phase := rfl
@[simp] theorem State.withReply_clock (s : State) (c : ReqCode) (r : Request) (d : Disposition) (why : Reason) (b : ReplyBody) : (s.withReply c r d why b).clock = s.clock := rfl
@[simp] theorem State.withReply_slots (s : State) (c : ReqCode) (r : Request) (d : Disposition) (why : Reason) (b : ReplyBody) : (s.withReply c r d why b).slots = s.slots := rfl
@[simp] theorem State.withReply_bin (s : State) (c : ReqCode) (r : Request) (d : Disposition) (why : Reason) (b : ReplyBody) : (s.withReply c r d why b).bin = s.bin := rfl
@[simp] theorem State.withReply_lineStop (s : State) (c : ReqCode) (r : Request) (d : Disposition) (why : Reason) (b : ReplyBody) : (s.withReply c r d why b).lineStop = s.lineStop := rfl
@[simp] theorem State.withReply_selectorA (s : State) (c : ReqCode) (r : Request) (d : Disposition) (why : Reason) (b : ReplyBody) : (s.withReply c r d why b).selectorA = s.selectorA := rfl
@[simp] theorem State.withReply_selectorB (s : State) (c : ReqCode) (r : Request) (d : Disposition) (why : Reason) (b : ReplyBody) : (s.withReply c r d why b).selectorB = s.selectorB := rfl
@[simp] theorem State.withReply_rateStrap (s : State) (c : ReqCode) (r : Request) (d : Disposition) (why : Reason) (b : ReplyBody) : (s.withReply c r d why b).rateStrap = s.rateStrap := rfl
@[simp] theorem State.withReply_portBStrap (s : State) (c : ReqCode) (r : Request) (d : Disposition) (why : Reason) (b : ReplyBody) : (s.withReply c r d why b).portBStrap = s.portBStrap := rfl
@[simp] theorem State.withReply_hold (s : State) (c : ReqCode) (r : Request) (d : Disposition) (why : Reason) (b : ReplyBody) : (s.withReply c r d why b).hold = s.hold := rfl
@[simp] theorem State.withReply_change (s : State) (c : ReqCode) (r : Request) (d : Disposition) (why : Reason) (b : ReplyBody) : (s.withReply c r d why b).change = s.change := rfl
@[simp] theorem State.withReply_lastChangeId (s : State) (c : ReqCode) (r : Request) (d : Disposition) (why : Reason) (b : ReplyBody) : (s.withReply c r d why b).lastChangeId = s.lastChangeId := rfl
@[simp] theorem State.withReply_lineConds (s : State) (c : ReqCode) (r : Request) (d : Disposition) (why : Reason) (b : ReplyBody) : (s.withReply c r d why b).lineConds = s.lineConds := rfl
@[simp] theorem State.withReply_store (s : State) (c : ReqCode) (r : Request) (d : Disposition) (why : Reason) (b : ReplyBody) : (s.withReply c r d why b).store = s.store := rfl
@[simp] theorem State.withReply_dirty (s : State) (c : ReqCode) (r : Request) (d : Disposition) (why : Reason) (b : ReplyBody) : (s.withReply c r d why b).dirty = s.dirty := rfl
@[simp] theorem State.withReply_writing (s : State) (c : ReqCode) (r : Request) (d : Disposition) (why : Reason) (b : ReplyBody) : (s.withReply c r d why b).writing = s.writing := rfl
@[simp] theorem State.withReply_replies (s : State) (c : ReqCode) (r : Request) (d : Disposition) (why : Reason) (b : ReplyBody) : (s.withReply c r d why b).replies = s.replies := rfl
@[simp] theorem State.withReply_recipes (s : State) (c : ReqCode) (r : Request) (d : Disposition) (why : Reason) (b : ReplyBody) : (s.withReply c r d why b).recipes = s.recipes := rfl
@[simp] theorem State.withReply_freeDraws (s : State) (c : ReqCode) (r : Request) (d : Disposition) (why : Reason) (b : ReplyBody) : (s.withReply c r d why b).freeDraws = s.freeDraws := rfl
@[simp] theorem State.withReply_pending (s : State) (c : ReqCode) (r : Request) (d : Disposition) (why : Reason) (b : ReplyBody) : (s.withReply c r d why b).pending = s.pending := rfl

/-! ### Notices joined -/

@[simp] theorem State.announce_phase (s : State) (ns : List Notice) : (s.announce ns).phase = s.phase := rfl
@[simp] theorem State.announce_clock (s : State) (ns : List Notice) : (s.announce ns).clock = s.clock := rfl
@[simp] theorem State.announce_slots (s : State) (ns : List Notice) : (s.announce ns).slots = s.slots := rfl
@[simp] theorem State.announce_bin (s : State) (ns : List Notice) : (s.announce ns).bin = s.bin := rfl
@[simp] theorem State.announce_lineStop (s : State) (ns : List Notice) : (s.announce ns).lineStop = s.lineStop := rfl
@[simp] theorem State.announce_selectorA (s : State) (ns : List Notice) : (s.announce ns).selectorA = s.selectorA := rfl
@[simp] theorem State.announce_selectorB (s : State) (ns : List Notice) : (s.announce ns).selectorB = s.selectorB := rfl
@[simp] theorem State.announce_rateStrap (s : State) (ns : List Notice) : (s.announce ns).rateStrap = s.rateStrap := rfl
@[simp] theorem State.announce_portBStrap (s : State) (ns : List Notice) : (s.announce ns).portBStrap = s.portBStrap := rfl
@[simp] theorem State.announce_hold (s : State) (ns : List Notice) : (s.announce ns).hold = s.hold := rfl
@[simp] theorem State.announce_change (s : State) (ns : List Notice) : (s.announce ns).change = s.change := rfl
@[simp] theorem State.announce_lastChangeId (s : State) (ns : List Notice) : (s.announce ns).lastChangeId = s.lastChangeId := rfl
@[simp] theorem State.announce_lineConds (s : State) (ns : List Notice) : (s.announce ns).lineConds = s.lineConds := rfl
@[simp] theorem State.announce_store (s : State) (ns : List Notice) : (s.announce ns).store = s.store := rfl
@[simp] theorem State.announce_dirty (s : State) (ns : List Notice) : (s.announce ns).dirty = s.dirty := rfl
@[simp] theorem State.announce_writing (s : State) (ns : List Notice) : (s.announce ns).writing = s.writing := rfl
@[simp] theorem State.announce_replies (s : State) (ns : List Notice) : (s.announce ns).replies = s.replies := rfl
@[simp] theorem State.announce_recipes (s : State) (ns : List Notice) : (s.announce ns).recipes = s.recipes := rfl
@[simp] theorem State.announce_freeDraws (s : State) (ns : List Notice) : (s.announce ns).freeDraws = s.freeDraws := rfl
@[simp] theorem State.announce_pending (s : State) (ns : List Notice) : (s.announce ns).pending = s.pending := rfl

/-! ### A notice joining a port -/

@[simp] theorem PortState.join_reqno (q : PortState) (p : Port) (n : Notice) : (q.join p n).reqno = q.reqno := by
  unfold PortState.join; split <;> [split; skip] <;> rfl
@[simp] theorem PortState.join_asm (q : PortState) (p : Port) (n : Notice) : (q.join p n).asm = q.asm := by
  unfold PortState.join; split <;> [split; skip] <;> rfl
@[simp] theorem PortState.join_tx (q : PortState) (p : Port) (n : Notice) : (q.join p n).tx = q.tx := by
  unfold PortState.join; split <;> [split; skip] <;> rfl
@[simp] theorem PortState.join_subs (q : PortState) (p : Port) (n : Notice) : (q.join p n).subs = q.subs := by
  unfold PortState.join; split <;> [split; skip] <;> rfl
@[simp] theorem PortState.join_sending (q : PortState) (p : Port) (n : Notice) : (q.join p n).sending = q.sending := by
  unfold PortState.join; split <;> [split; skip] <;> rfl
@[simp] theorem PortState.join_noticeTurn (q : PortState) (p : Port) (n : Notice) : (q.join p n).noticeTurn = q.noticeTurn := by
  unfold PortState.join; split <;> [split; skip] <;> rfl
@[simp] theorem PortState.join_note (q : PortState) (p : Port) (n : Notice) : (q.join p n).note = q.note := by
  unfold PortState.join; split <;> [split; skip] <;> rfl

/-- A notice joins the tail of the queue or is dropped, and a queue within its bound stays within it (R158, R159). -/
theorem PortState.join_notices (q : PortState) (p : Port) (n : Notice) :
    (q.join p n).notices = q.notices ∨ ((q.join p n).notices = q.notices ++ [n] ∧ q.notices.length < Config.noticePlaces) := by
  unfold PortState.join
  split
  · split
    · exact .inr ⟨rfl, ‹_›⟩
    · exact .inl rfl
  · exact .inl rfl

/-! ### Events -/

@[simp] theorem Ev.of_s (s : State) : (Ev.of s).s = s := rfl
@[simp] theorem Ev.of_notices (s : State) : (Ev.of s).notices = [] := rfl
@[simp] theorem Ev.of_replies (s : State) : (Ev.of s).replies = [] := rfl
@[simp] theorem Ev.onState_s (ev : Ev) (f : State → State) : (ev.onState f).s = f ev.s := rfl
@[simp] theorem Ev.onState_notices (ev : Ev) (f : State → State) : (ev.onState f).notices = ev.notices := rfl
@[simp] theorem Ev.onState_replies (ev : Ev) (f : State → State) : (ev.onState f).replies = ev.replies := rfl
@[simp] theorem Ev.modSlot_s (ev : Ev) (i : SlotId) (f : Slot → Slot) : (ev.modSlot i f).s = ev.s.modSlot i f := rfl
@[simp] theorem Ev.modSlot_notices (ev : Ev) (i : SlotId) (f : Slot → Slot) : (ev.modSlot i f).notices = ev.notices := rfl
@[simp] theorem Ev.modSlot_replies (ev : Ev) (i : SlotId) (f : Slot → Slot) : (ev.modSlot i f).replies = ev.replies := rfl
@[simp] theorem Ev.modCrusher_s (ev : Ev) (i : SlotId) (f : Crusher → Crusher) :
    (ev.modCrusher i f).s = ev.s.modSlot i (fun x => { x with crusher := f x.crusher }) := rfl
@[simp] theorem Ev.modCrusher_notices (ev : Ev) (i : SlotId) (f : Crusher → Crusher) : (ev.modCrusher i f).notices = ev.notices := rfl
@[simp] theorem Ev.modCrusher_replies (ev : Ev) (i : SlotId) (f : Crusher → Crusher) : (ev.modCrusher i f).replies = ev.replies := rfl
@[simp] theorem Ev.modFeeder_s (ev : Ev) (i : SlotId) (f : Feeder → Feeder) :
    (ev.modFeeder i f).s = ev.s.modSlot i (fun x => { x with feeder := f x.feeder }) := rfl
@[simp] theorem Ev.modFeeder_notices (ev : Ev) (i : SlotId) (f : Feeder → Feeder) : (ev.modFeeder i f).notices = ev.notices := rfl
@[simp] theorem Ev.modFeeder_replies (ev : Ev) (i : SlotId) (f : Feeder → Feeder) : (ev.modFeeder i f).replies = ev.replies := rfl
@[simp] theorem Ev.notify_s (ev : Ev) (i : Option SlotId) (b : NoticeBody) : (ev.notify i b).s = ev.s := rfl
@[simp] theorem Ev.notify_replies (ev : Ev) (i : Option SlotId) (b : NoticeBody) : (ev.notify i b).replies = ev.replies := rfl
@[simp] theorem Ev.immediateAt_s (ev : Ev) (k : Nat) (p : Port) (r : Reply) : (ev.immediateAt k p r).s = ev.s := rfl
@[simp] theorem Ev.immediateAt_notices (ev : Ev) (k : Nat) (p : Port) (r : Reply) : (ev.immediateAt k p r).notices = ev.notices := rfl
@[simp] theorem Ev.answer_s (ev : Ev) (c : ReqCode) (r : Request) (d : Disposition) (why : Reason) (b : ReplyBody) :
    (ev.answer c r d why b).s = ev.s := rfl
@[simp] theorem Ev.done_s (ev : Ev) (c : ReqCode) (r : Request) (b : ReplyBody) : (ev.done c r b).s = ev.s := rfl
@[simp] theorem Ev.refuse_s (ev : Ev) (c : ReqCode) (r : Request) (why : Reason) : (ev.refuse c r why).s = ev.s := rfl
@[simp] theorem Ev.finalReply_s (ev : Ev) (p : Port) (a : Bool) (r : Reply) : (ev.finalReply p a r).s = ev.s := by
  unfold Ev.finalReply; split <;> rfl
@[simp] theorem Ev.finalReply_notices (ev : Ev) (p : Port) (a : Bool) (r : Reply) : (ev.finalReply p a r).notices = ev.notices := by
  unfold Ev.finalReply; split <;> rfl
@[simp] theorem Ev.markDirty_slots (ev : Ev) (r : RecId) : (ev.markDirty r).s.slots = ev.s.slots := rfl
@[simp] theorem Ev.setDrive_s (ev : Ev) (i : SlotId) (c : DriveCmd) :
    (ev.setDrive i c).s = ev.s.modSlot i (fun x => x.command ev.now c) := rfl

end Sys2Proof.Machine
end

