-- ==== Sys2Proof/Laws/Ops.lean ====
section
/-! SUPPORT. What the shared operations can do, said once each: delivery to the ports, taking a request, recording a condition, raising
and lowering an inhibit reason, the output driver, the move queue. -/

namespace Sys2Proof.Machine

open Sys2Proof

/-! ### The end of an event -/

/-- No more replies join than there are places, besides the immediate ones (R176). -/
theorem joinReplies_length (l : List Raised) : ∀ n, (joinReplies n l).length ≤ n + (l.filter (·.immediate)).length := by
  induction l with
  | nil => intro n; simp [joinReplies]
  | cons r rs ih =>
    intro n
    by_cases h : r.immediate = true
    · have := ih n; simp [joinReplies, h]; omega
    · cases n with
      | zero => have := ih 0; simp [joinReplies, h]; omega
      | succ n => have := ih n; simp [joinReplies, h]; omega

@[simp] theorem joinReplies_nil (n : Nat) : joinReplies n [] = [] := by cases n <;> rfl

/-- With places enough, every reply of an event joins, in order (R176). -/
theorem joinReplies_all (l : List Raised) : ∀ n, (l.filter (fun r => !r.immediate)).length ≤ n →
    joinReplies n l = l.map (·.reply) := by
  induction l with
  | nil => intro n _; simp
  | cons r rs ih =>
    intro n hn
    by_cases h : r.immediate = true
    · simp [joinReplies, h] at hn ⊢; exact ih n hn
    · cases n with
      | zero => simp [h] at hn
      | succ n => simp [joinReplies, h] at hn ⊢; exact ih n (by omega)

/-- A port to which an event gives nothing stays as it is. -/
@[simp] theorem PortState.deliver_nothing (q : PortState) (p : Port) (e : Bool) : q.deliver p e [] [] = q := by
  cases e <;> simp [PortState.deliver]
  cases q
  simp +contextual

/-- The end of an event changes nothing but the ports. -/
theorem Ev.commit_eq (ev : Ev) : ev.commit = { ev.s with ports := ev.commit.ports } := by
  unfold Ev.commit; split <;> rfl

@[simp] theorem Ev.commit_slots (ev : Ev) : ev.commit.slots = ev.s.slots := by rw [Ev.commit_eq]
@[simp] theorem Ev.commit_phase (ev : Ev) : ev.commit.phase = ev.s.phase := by rw [Ev.commit_eq]
@[simp] theorem Ev.commit_clock (ev : Ev) : ev.commit.clock = ev.s.clock := by rw [Ev.commit_eq]
@[simp] theorem Ev.commit_change (ev : Ev) : ev.commit.change = ev.s.change := by rw [Ev.commit_eq]
@[simp] theorem Ev.commit_dirty (ev : Ev) : ev.commit.dirty = ev.s.dirty := by rw [Ev.commit_eq]
@[simp] theorem Ev.commit_bin (ev : Ev) : ev.commit.bin = ev.s.bin := by rw [Ev.commit_eq]
@[simp] theorem Ev.commit_lineStop (ev : Ev) : ev.commit.lineStop = ev.s.lineStop := by rw [Ev.commit_eq]
@[simp] theorem Ev.commit_store (ev : Ev) : ev.commit.store = ev.s.store := by rw [Ev.commit_eq]
@[simp] theorem Ev.commit_pending (ev : Ev) : ev.commit.pending = ev.s.pending := by rw [Ev.commit_eq]

/-- An event that raised nothing leaves the ports too. -/
theorem Ev.commit_silent (ev : Ev) (hn : ev.notices = []) (hr : ev.replies = []) : ev.commit = ev.s := by
  unfold Ev.commit
  split
  · rw [hn, hr]
    have : (PerPort.of fun p => (ev.s.ports.get p).deliver p (ev.s.enabled p) [] []) = ev.s.ports :=
      PerPort.ext_get (fun p => by simp)
    rw [this]
  · rfl

/-! ### Taking a request (R173) -/

theorem State.takeRequest_untaken (s : State) (c : ReqCode) (r : Request) (f : Ev → Ev) (h : s.takes r.port = false) :
    s.takeRequest c r f = s := by simp [State.takeRequest, State.taking, h]

theorem State.takeRequest_taken (s : State) (c : ReqCode) (r : Request) (f : Ev → Ev) (h : s.takes r.port = true)
    (ha : c.admits r = true) : s.takeRequest c r f = (f (Ev.of (s.countRequest r.port))).commit := by
  simp [State.takeRequest, State.taking, h, ha]

/-- What `takes` says of the port (R170, R171, R176). -/
theorem State.takes_spec {s : State} {p : Port} (h : s.takes p = true) :
    s.phase = .running ∧ s.enabled p = true ∧ (s.ports.get p).tx.length < 64 := by
  simp only [State.takes, Config.txPlaces, Bool.and_eq_true, beq_iff_eq] at h
  exact ⟨h.1.1, h.1.2, of_decide_eq_true h.2⟩

/-- An event on one port that raises the immediate reply and nothing else: its reply joins the port's transmit queue. -/
theorem Ev.commit_reply (ev : Ev) (p : Port) (rep : Reply) (hn : ev.notices = []) (hr : ev.replies = [⟨p, true, rep⟩])
    (hp : ev.s.phase = .running) (he : ev.s.enabled p = true) :
    ev.commit = ev.s.modPort p (fun q => { q with tx := q.tx ++ [rep] }) := by
  unfold Ev.commit State.modPort
  rw [if_pos hp, hn, hr]
  suffices h : PerPort.of (fun q => (ev.s.ports.get q).deliver q (ev.s.enabled q) [] [⟨p, true, rep⟩])
      = ev.s.ports.set p { ev.s.ports.get p with tx := (ev.s.ports.get p).tx ++ [rep] } by rw [h]
  refine PerPort.ext_get (fun q => ?_)
  by_cases hq : q = p
  · subst hq
    simp [PortState.deliver, he, joinReplies]
  · have : (p == q) = false := by simpa using fun h => hq h.symm
    rw [PerPort.get_of, PerPort.get_set_ne _ _ hq]
    have hf : List.filter (fun r : Raised => r.port == q) [⟨p, true, rep⟩] = [] := by simp [this]
    unfold PortState.deliver
    split
    · rw [hf]
      cases h : ev.s.ports.get q
      simp +contextual
    · rfl

/-! ### Conditions (R152) -/

/-- Recording a kind puts it into the slot's set and changes nothing else of the state. -/
theorem Ev.record_s (ev : Ev) (i : SlotId) (k : Cond) :
    (ev.record i k).s = if (ev.slot i).conds.mem k then ev.s
      else ev.s.modSlot i (fun x => { x with conds := x.conds.insert k }) := by
  unfold Ev.record; split <;> rfl

@[simp] theorem Ev.record_replies (ev : Ev) (i : SlotId) (k : Cond) : (ev.record i k).replies = ev.replies := by
  unfold Ev.record; split <;> rfl

/-- A kind inserted is in the set. -/
@[simp] theorem CondSet.mem_insert_self (s : CondSet) (k : Cond) : (s.insert k).mem k = true := by
  cases k <;> simp [CondSet.mem, CondSet.insert, Cond.code]

theorem CondSet.insert_of_mem (s : CondSet) (k : Cond) (h : s.mem k = true) : s.insert k = s := by
  unfold CondSet.insert
  ext j hj
  by_cases hk : j = k.code
  · subst hk
    simp only [CondSet.mem] at h
    have hs : s[k.code] = true := by simpa [BitVec.getElem_eq_testBit_toNat, BitVec.getLsbD] using h
    simp [hs]
  · simp [BitVec.getElem_or, BitVec.getElem_twoPow, hk]

/-! ### Inhibit reasons (R108) -/

@[simp] theorem Inhibits.mem_put_self (s : Inhibits) (r : Inhibit) (b : Bool) : (s.put r b).mem r = b := by cases r <;> rfl

@[simp] theorem Inhibits.mem_put_ne (s : Inhibits) {r k : Inhibit} (b : Bool) (h : k ≠ r) : (s.put r b).mem k = s.mem k := by
  cases r <;> cases k <;> first | rfl | exact absurd rfl h

theorem Inhibits.isEmpty_iff (s : Inhibits) : s.isEmpty = true ↔ ∀ r, s.mem r = false := by
  constructor
  · intro h r; cases r <;> simp_all [Inhibits.isEmpty, Inhibits.mem]
  · intro h
    have h1 := h .relief; have h2 := h .recoveryDelay; have h3 := h .drain; have h4 := h .calibrate; have h5 := h .lockout
    simp_all [Inhibits.isEmpty, Inhibits.mem]

@[simp] theorem Ev.feederNotice_s (ev : Ev) (i : SlotId) (c : FeederCause) : (ev.feederNotice i c).s = ev.s := rfl

@[simp] theorem Ev.feederNotice_replies (ev : Ev) (i : SlotId) (c : FeederCause) : (ev.feederNotice i c).replies = ev.replies := rfl

@[simp] theorem Ev.mergedNotice_s (ev : Ev) (i : SlotId) (c : FeederCause) : (ev.mergedNotice i c).s = ev.s := by
  unfold Ev.mergedNotice; split <;> rfl

@[simp] theorem Ev.mergedNotice_replies (ev : Ev) (i : SlotId) (c : FeederCause) : (ev.mergedNotice i c).replies = ev.replies := by
  unfold Ev.mergedNotice; split <;> rfl

@[simp] theorem Ev.inhibitNotice_s (ev : Ev) (i : SlotId) (c : FeederCause) : (ev.inhibitNotice i c).s = ev.s := by
  unfold Ev.inhibitNotice; split <;> simp

@[simp] theorem Ev.inhibitNotice_replies (ev : Ev) (i : SlotId) (c : FeederCause) : (ev.inhibitNotice i c).replies = ev.replies := by
  unfold Ev.inhibitNotice; split <;> simp

/-- Where an event has raised no FEEDER_STATE notice for the feeder yet, a change sends one of its own (R117). -/
theorem Ev.mergedNotice_first (ev : Ev) (i : SlotId) (c : FeederCause) (h : ev.notices.any (·.isFeederState i) = false) :
    ev.mergedNotice i c = ev.feederNotice i c := by
  unfold Ev.mergedNotice; rw [h]; rfl

/-- A crusher's lockout puts LOCKOUT into the set of its linked feeder, and changes no other slot's state. -/
theorem Ev.lockLinked_s (ev : Ev) (i : SlotId) : (ev.lockLinked i).s = (ev.raiseLinked i .lockout).s := by
  unfold Ev.lockLinked Ev.raiseLinked
  split
  · unfold Ev.raise; split <;> simp
  · rfl

/-- Making one notice of those about the linked feeder changes no state and no reply. -/
@[simp] theorem Ev.mergeLinked_s (ev : Ev) (i : SlotId) : (ev.mergeLinked i).s = ev.s := by
  unfold Ev.mergeLinked; split
  · split <;> simp
  · rfl

@[simp] theorem Ev.mergeLinked_replies (ev : Ev) (i : SlotId) : (ev.mergeLinked i).replies = ev.replies := by
  unfold Ev.mergeLinked; split
  · split <;> simp
  · rfl

/-- Raising a reason that stands changes nothing; any other joins the set, and from an empty set the reference is 0 at once. -/
theorem Ev.raise_s (ev : Ev) (i : SlotId) (r : Inhibit) :
    (ev.raise i r).s = if (ev.feeder i).inhibits.mem r then ev.s
      else ev.s.modSlot i (fun x => { x with feeder := x.feeder.raise r }) := by
  unfold Ev.raise; split
  · rfl
  · simp

/-- Lowering a reason takes it out of the set and changes nothing else. -/
theorem Ev.lower_s (ev : Ev) (i : SlotId) (r : Inhibit) :
    (ev.lower i r).s = if (ev.feeder i).inhibits.mem r then ev.s.modSlot i (fun x => { x with feeder := x.feeder.lower r })
      else ev.s := by
  unfold Ev.lower; split
  · simp
  · rfl

/-! ### The output driver (R167, R168) -/

@[simp] theorem Driver.turnOff_out (d : Driver) (now : Nat) : (d.turnOff now).out = none := by
  unfold Driver.turnOff; split
  · assumption
  · rfl

@[simp] theorem Driver.turnOff_cmd (d : Driver) (now : Nat) : (d.turnOff now).cmd = d.cmd := by
  unfold Driver.turnOff; split <;> rfl

/-- A driver's outputs are off, or what the command asks for behind the close guard. -/
theorem Driver.settle_out (d : Driver) (now : Nat) (pos : PosChannel) :
    (d.settle now pos).out = none ∨ (d.settle now pos).out = d.cmd.wanted pos := by
  unfold Driver.settle
  dsimp only
  split
  · exact .inr ‹_›
  · cases d.cmd.wanted pos with
    | none => exact .inl (Driver.turnOff_out d now)
    | some x => dsimp only; split <;> simp

/-- The command stays; only the outputs, the last direction and the dwell can change. -/
@[simp] theorem Driver.settle_cmd (d : Driver) (now : Nat) (pos : PosChannel) : (d.settle now pos).cmd = d.cmd := by
  unfold Driver.settle
  dsimp only
  split
  · rfl
  · cases d.cmd.wanted pos with
    | none => exact Driver.turnOff_cmd d now
    | some x => dsimp only; split <;> simp

/-- A CLOSE output stands only below the limit at a valid reading (R167). -/
theorem Driver.settle_guard (d : Driver) (now : Nat) (pos : PosChannel) (h : (d.settle now pos).out = some .closing) :
    d.cmd.dir = some .closing ∧ pos.below d.cmd.limit = true := by
  rcases Driver.settle_out d now pos with h' | h'
  · rw [h'] at h; cases h
  · rw [h'] at h
    revert h
    unfold DriveCmd.wanted
    cases d.cmd.dir with
    | none => intro h; cases h
    | some x =>
      cases x with
      | opening => intro h; cases h
      | closing =>
        intro h
        dsimp only at h
        split at h
        · exact ⟨rfl, ‹_›⟩
        · cases h

/-- At HOLD nothing is driven. -/
theorem Slot.command_hold (x : Slot) (now : Nat) : (x.command now .hold).driver.cmd = .hold ∧ (x.command now .hold).driver.out = none := by
  refine ⟨by simp [Slot.command], ?_⟩
  rcases Driver.settle_out { x.driver with cmd := .hold } now x.position with h | h
  · exact h
  · exact h

/-- A drive command changes the driver alone. -/
theorem Slot.command_frame (x : Slot) (now : Nat) (c : DriveCmd) : x.command now c = { x with driver := (x.command now c).driver } := rfl

/-! ### The move queue (R36 to R39) -/

@[simp] theorem insertEntry_length (q : List Entry) (e : Entry) : (insertEntry q e).length = q.length + 1 := by
  unfold insertEntry
  split
  · have := List.takeWhile_append_dropWhile (p := (fun e : Entry => e.priority)) (l := q)
    have h := congrArg List.length this
    simp only [List.length_append, List.length_cons] at h ⊢
    omega
  · simp

theorem mem_insertEntry (q : List Entry) (e x : Entry) : x ∈ insertEntry q e ↔ x = e ∨ x ∈ q := by
  unfold insertEntry
  split
  · have := List.takeWhile_append_dropWhile (p := (fun e : Entry => e.priority)) (l := q)
    conv_rhs => rw [← this]
    simp only [List.mem_append, List.mem_cons]
    tauto
  · simp [or_comm]

/-! ### The store -/

/-- A record that takes a state's values and a check value holds both (R180, R182). -/
theorem Nonvolatile.put_self (v : Nonvolatile) (u : State) (r : RecId) (c : Word16) :
    (v.put r (u.image r) c).image r = u.image r ∧ (v.put r (u.image r) c).check r = c := by
  cases r <;> simp [Nonvolatile.put, Nonvolatile.image, Nonvolatile.check, State.image]

/-- Every other record stays as it is. -/
theorem Nonvolatile.put_other (v : Nonvolatile) {r r' : RecId} (x : Image) (c : Word16) (h : r' ≠ r) :
    (v.put r x c).image r' = v.image r' ∧ (v.put r x c).check r' = v.check r' := by
  cases r <;> cases x <;> cases r' <;> simp_all [Nonvolatile.put, Nonvolatile.image, Nonvolatile.check]

/-- A failed write leaves every record its contents, and every other one its check value (R182, log 12). -/
theorem Nonvolatile.doubt_spec (v : Nonvolatile) (r : RecId) (n : Nat) :
    (∀ r', (v.doubt r n).image r' = v.image r') ∧ ∀ r', r' ≠ r → (v.doubt r n).check r' = v.check r' := by
  refine ⟨fun r' => ?_, fun r' h => (v.put_other _ _ h).2⟩
  by_cases h : r' = r
  · subst h; cases r' <;> simp [Nonvolatile.doubt, Nonvolatile.put, Nonvolatile.image]
  · exact (v.put_other _ _ h).1

/-- Start-up loads W within 0..WEAR_MAX and W_at_move within 0..W (R79, log 28); a failed wear record gives 0 for both. -/
theorem Nonvolatile.crusherOf_wear (v : Nonvolatile) (i : SlotId) :
    (v.crusherOf i).w = (if v.good (.wear i) then min (v.wears.get i).contents.w (v.paramOf i).cp.wearMax else 0)
      ∧ (v.crusherOf i).wAtMove = (if v.good (.wear i) then min (v.wears.get i).contents.wAtMove (v.crusherOf i).w else 0) := by
  unfold Nonvolatile.crusherOf; split <;> split <;> split <;> simp_all [Crusher.fresh]

/-- A record is good when its check value is that of its contents (R172, R180). -/
theorem Nonvolatile.good_iff (v : Nonvolatile) (r : RecId) : v.good r = true ↔ v.check r = (v.image r).check := by
  simp [Nonvolatile.good]

end Sys2Proof.Machine
end

