-- ==== Sys2Proof/WellFormed.lean ====
section
/-! DEFINITION. Well-formed commands: what the setting link can carry to the decoder. -/

namespace Sys2Proof

open Sys2Proof.Machine

/-- A request frame carries at most 241 payload bytes (section 11.2). -/
def Request.wellFormed (r : Request) : Bool := decide (r.payload.length ≤ 241)

/-- Every request is one a frame can carry; a bad-kind request's KIND is no request code (R173); a position answer, a sample and an
input level are well formed as they stand. -/
def Instr.wellFormed : Instr → Bool
  | .echo r | .readSlot r | .readQueue r | .readLine r | .readReliefs r | .readRecipe r | .readNote r | .take r | .release r
  | .hand r | .postNote r | .setHold r | .setGap r | .stepGap r | .recallGap r | .suspend r | .resume r | .go r | .flush r
  | .calibrate r | .clearBlock r | .setRate r | .startFeed r | .stopFeed r | .startLine r | .applyRecipe r | .abortChange r
  | .saveRecipe r | .writeParams r | .lockParams r | .setMask r | .clearMask r | .clearConditions r | .subscribe r
  | .lineReset r => r.wellFormed
  | .badKindRequest kind r => (ReqCode.ofByte kind).isNone && r.wellFormed
  | .powerOn _ | .startUpEnd | .characterReceived _ _ | .interCharacterGap _ | .transmitTake _ | .frameTransmitted _
  | .analogSample _ _ | .positionSample _ _ | .tonnageEdge _ | .discreteInputChange _ _ | .debounceExpiry _
  | .travelExpiry _ | .settleExpiry _ | .suspensionExpiry _ | .drainLimitExpiry _ | .fixedDrainExpiry _
  | .recoveryTimerExpiry _ | .restartDelayExpiry _ | .regulationPeriod _ | .runConfirmExpiry _ | .changeTimerExpiry
  | .dwellExpiry _ | .storeWriteStart | .storeWriteComplete _ | .powerLoss => true

end Sys2Proof
end

