-- ==== Sys2Proof/Tests/Slice0.lean ====
section
/-! SUPPORT. Tests: the check on ill-formed commands, the manual's worked cases one event at a time, and a state and operands that meet
the hypotheses of each statement. The line is the reference layout of section 8.7 and the cone that of section 2.9. -/

namespace Sys2Proof.Tests

open Sys2Proof Sys2Proof.Machine

/-- A command answers a next state that passes a check. -/
def leaves (c : Instr) (s : State) (p : State → Bool) : Bool :=
  match exec c s with
  | .next t => p t
  | _ => false

/-! ### The line -/

def coneParams : CrusherParams :=
  { CrusherParams.default with linkedFeeder := some 2, area := .b, envMax := 2500, nearFull := 3 }

def cone : Slot :=
  { Slot.blank with
    kind := .cone, cp := coneParams, holder := some .plant, mask := Kind.defaultMask .cone
    crusher := { Crusher.fresh coneParams with tf := 220, z := 12000, w := 14 }
    position := ⟨true, 0, some 10770, some 0⟩
    level := ⟨true, 640, some 0⟩
    power := ⟨true, 930, some 0⟩ }

def jaw : Slot :=
  { cone with
    kind := .jaw, cp := { coneParams with linkedFeeder := some 0, area := .a }
    position := ⟨true, 0, some 5000, some 0⟩ }

def feeder (served : SlotId) (rel : BinRel) (area : Area) : Slot :=
  { Slot.blank with
    kind := .feeder, fp := { FeederParams.default with served := some served, binRel := rel, area := area }
    holder := some .plant, mask := Kind.defaultMask .feeder
    feeder := { Feeder.fresh .default with rb := 520 } }

/-- Slots 0 and 1: the primary feeder and the jaw; 2 and 3, 4 and 5: the feeders and cones A and B; the bin NORMAL. -/
def line : State :=
  { State.reset with
    slots := ⟨feeder 1 .fills .a, jaw, feeder 3 .draws .noArea, cone, feeder 5 .draws .b,
      { cone with cp := { coneParams with linkedFeeder := some 4 } }, .blank, .blank⟩
    bin := ⟨.normal, .default, 500, ⟨true, 500, some 0⟩⟩ }

def coneIs (f : Crusher → Crusher) : State := line.modSlot 3 (fun x => { x with crusher := f x.crusher })
def jawIs (f : Crusher → Crusher) : State := line.modSlot 1 (fun x => { x with crusher := f x.crusher })
def feederIs (f : Feeder → Feeder) : State := line.modSlot 2 (fun x => { x with feeder := f x.feeder })
def coneMoves (m : Motion) : State := coneIs (fun c => { c with motion := m })

def from_ (p : Port) (slot : Byte) (payload : List Byte) : Request := ⟨p, 0x01, 70, slot, payload⟩
def ask (slot : Byte) (payload : List Byte) : Request := from_ .plant slot payload

def entry (p : Port) (tag : Word16) (k : MoveKind) (v : Int) (g : Option Nat) : Entry :=
  ⟨.port p, if k = .step then .stepGap else .setGap, tag, 1, true, k, v, g, false, false, false, none⟩

/-- The move to 220 of section 2.9. -/
def move : MoveRec := ⟨entry .plant 70 .set 220 (some 220), some 220, 10970, none, .moving, .zero, 0⟩
def moving : State :=
  coneIs (fun c => { c with motion := .moving, tf := 300, move := some move, travel := some 120000 })
def settling : State :=
  coneIs (fun c => { c with motion := .settling, tf := 300, move := some move, travel := some 120000, settle := some 2000 })
def suspended : State :=
  coneIs (fun c => { c with
    motion := .suspended, tf := 300, move := some { move with causes := ⟨true, false, false, false⟩, remaining := 80000 }
    suspension := some 600000 })
def draining : State :=
  jawIs (fun c => { c with
    motion := .draining, move := some move, travel := some 120000, drainLimit := some 90000, fixedDrain := some 30000 })
def episode : Episode := ⟨4200, some 10800, .moving, some 10970, false⟩
def relieved : State :=
  (coneIs (fun c => { c with
    motion := .relief, tf := 300, move := some move, episode := some { episode with target := none }, history := [4200] })).modSlot 3
    (fun x => { x with relief := ⟨true, true, none⟩ })
def recovering : State :=
  coneIs (fun c => { c with
    motion := .recovering, tf := 300, move := some move, episode := some episode, travel := some 120000, settle := some 2000 })
def run : CalRun :=
  ⟨.plant, 80, 1, true, .approach, false, some 10970, none, none, false, false, false, 31000, [(73000, 12080)]⟩
def approaching : State :=
  { coneIs (fun c => { c with motion := .calibrating, cal := some run, travel := some 151000 }) with clock := 75000 }
def running : State :=
  feederIs (fun f => { f with run := .running, r := 520, rPrev := 520, seed := false, mode := .level, ls := 700, regTimer := some 500 })

def good (p : BitVec 14) : PositionAnswer := ⟨true, p, (ones p) % 2 == 1, false⟩
def bad : PositionAnswer := ⟨false, 0, false, false⟩

/-! ### Ill-formed commands -/

/-- A payload of 241 bytes is one a frame can carry; one of 242 is refused, whatever the request. -/
theorem smoke_payload : (Instr.echo (ask 0xFF (List.replicate 241 0))).wellFormed = true
    ∧ (Instr.echo (ask 0xFF (List.replicate 242 0))).wellFormed = false
    ∧ (Instr.lineReset (ask 0xFF (List.replicate 242 0))).wellFormed = false
    ∧ (Instr.badKindRequest 0x00 (ask 0xFF (List.replicate 242 0))).wellFormed = false := by decide +kernel

/-- BAD_KIND_REQUEST carries a KIND that is no request code. -/
theorem smoke_kind : (Instr.badKindRequest 0x20 (ask 3 [])).wellFormed = false
    ∧ (Instr.badKindRequest 0x29 (ask 3 [])).wellFormed = true := by decide

/-! ### Worked cases, arithmetic -/

/-- Section 2.9: the nominal point, T_g below CM, P_LO 4000, P_HI 11000, the empty reach, exact halves. -/
theorem test_targets : targetFor coneParams 12000 14 false 220 = ⟨some 10970, false⟩
    ∧ targetFor coneParams 12000 200 false 220 = ⟨none, true⟩ ∧ targetFor coneParams 12000 200 true 220 = ⟨some 11700, true⟩
    ∧ targetFor { coneParams with pLo := 4000 } 12000 14 true 1800 = ⟨some 4000, true⟩
    ∧ targetFor { coneParams with pHi := 11000 } 12000 14 true 200 = ⟨some 11000, true⟩
    ∧ (targetFor { coneParams with pLo := 4000 } 4200 14 true 220).pos = none
    ∧ countsOf 8192 205 = 103 ∧ countsOf 8192 206 = 103 := by decide

/-- Section 2.9: estimated gaps near the zero point and at saturation. -/
theorem test_gaps : [11992, 11995, 11997, 11998, 12000, 12010].map (estimatedGap 819 12000 14) = [16, 15, 15, 14, 14, 14]
    ∧ estimatedGap 4096 16000 300 12000 = 4095 ∧ gapOf 2048 7 = 4 ∧ gapOf 2048 6 = 3 := by decide

/-- Section 1.10: the relation of a cone at T_f = 220. -/
theorem test_relations :
    [(10968, true), (10960, true), (10980, true), (10968, false)].map
        (fun (p, v) => relationOf coneParams 12000 14 220 ⟨v, 0, some p, none⟩)
      = [.within, .openOf, .closedOf, .unordered] := by decide

/-- R172: the check value of the nine digits. -/
theorem test_crc : crc [0x31, 0x32, 0x33, 0x34, 0x35, 0x36, 0x37, 0x38, 0x39] = 0x29B1 := by decide +kernel

/-- Section 6.6: the bin's values from NORMAL, and the first value after UNKNOWN. -/
theorem test_bin_hysteresis :
    [(BinState.normal, 790), (.normal, 805), (.high, 785), (.high, 960), (.full, 935), (.full, 930), (.unknown, 790), (.low, 50),
        (.empty, 65), (.empty, 70), (.low, 215), (.low, 230)].map (fun (k, l) => BinThresholds.default.next k l)
      = [.normal, .high, .high, .full, .full, .high, .normal, .empty, .empty, .low, .low, .normal] := by decide

/-- Section 8.7: outcomes of small changes. -/
theorem test_outcomes :
    let item := fun (k : ItemState) (why : Reason) => (⟨3, .cone, .gap 240, 2, k, why, none⟩ : Item)
    outcomeOf [item .done .noReason, item .done .noReason] = (.done, .noReason)
      ∧ outcomeOf [item .adjusted .envelope, item .done .noReason] = (.doneAdjusted, .envelope)
      ∧ outcomeOf [item .failed .reach, item .done .noReason] = (.partialDone, .reach)
      ∧ outcomeOf [item .failed .envelope, item .skipped .lockout] = (.failed, .envelope)
      ∧ outcomeOf [item .skipped .authority, item .skipped .authority] = (.failed, .authority) := by decide

/-! ### Worked cases, one command -/

def motionOf (s : State) : Motion := (s.slots.get 3).crusher.motion
def repliesTo (p : Port) (s : State) : List (Disposition × Reason × Word16) :=
  (s.ports.get p).tx.map (fun r => (r.disp, r.reason, r.tag))

/-- Section 2.9: SET 220 starts toward 10970, closing SLOW at 10770; SET_GAP 2600 while MOVING is clamped to 2500 and recorded. -/
theorem test_setGap :
    leaves (.setGap (ask 3 [0, 220])) line (fun t => motionOf t == .moving &&
    (t.slots.get 3).crusher.move.map (·.target) == some 10970 && (t.slots.get 3).driver.cmd == ⟨some .closing, true, 11700⟩ &&
    repliesTo .plant t == [(.started, .noReason, 70)])
      ∧ leaves (.setGap (ask 3 [0x0A, 0x28])) moving
    (fun t => (t.slots.get 3).crusher.queue.map (·.applied) == [some 2500] && (t.slots.get 3).conds.mem .envelope &&
    repliesTo .plant t == [(.queued, .envelope, 70)]) := by
  decide

/-- Section 2.9: STEP −500 behind two entries. -/
theorem test_stepGap : leaves (.stepGap (ask 3 [0xFE, 0x0C])) (moving.modSlot 3 (fun x => { x with crusher := { x.crusher with
        queue := [entry .plant 11 .step 40 none, entry .plant 12 .set 2600 (some 2500)] } }))
            (fun t => (t.slots.get 3).crusher.queue.map (·.requested) == [40, 2600, -500] &&
            repliesTo .plant t == [(.queued, .queueNear, 70)]) := by decide

def fullQueue : List Entry :=
  [{ entry .plant 13 .set 280 (some 280) with priority := true }, entry .plant 11 .set 320 (some 320),
    { entry .plant 12 .step 10 none with staged := true }, entry .plant 14 .set 260 (some 260)]
def full : State := moving.modSlot 3 (fun x => { x with crusher := { x.crusher with queue := fullQueue } })

/-- Section 3.12: a priority SET 250 into a full queue. -/
theorem test_setGap_full_queue : leaves (.setGap ⟨.plant, 0x03, 15, 3, [0, 250]⟩) full
    (fun t => (t.slots.get 3).crusher.queue.map (·.requested) == [280, 250, 320, 10] &&
    repliesTo .plant t == [(.discarded, .queueFull, 14), (.queued, .queueNear, 15)]) := by decide

def stack : RecallStack :=
  ⟨some ⟨240, .port .stnA⟩, some ⟨340, .port .stnA⟩, some ⟨320, .port .stnA⟩, some ⟨300, .port .stnA⟩, some ⟨280, .port .stnA⟩,
    some ⟨260, .port .stnA⟩, 0⟩

/-- Section 3.12: RECALL offers the newest gap, and the refused one is put back. -/
theorem test_recallGap :
    let s := moving.modSlot 3 (fun x => { x with crusher := { x.crusher with stack := stack } })
    leaves (.recallGap (ask 3 [])) s (fun t => (t.slots.get 3).crusher.queue.map (·.applied) == [some 240] &&
        (t.slots.get 3).crusher.stack.depth == 5)
      ∧ leaves (.recallGap (ask 3 [])) (s.modSlot 3 (fun x => { x with mask := 0, cp := { x.cp with envMax := 190 } }))
          (fun t => (t.slots.get 3).crusher.stack == stack && repliesTo .plant t == [(.refused, .envelope, 70)]) := by decide

/-- Section 3.12: SUSPEND 40 s into a move. -/
theorem test_suspend : leaves (.suspend (ask 3 [])) { moving with clock := 40000 }
    (fun t => (t.slots.get 3).crusher.move.map (fun m => (m.remaining, m.returnTo, m.causes)) ==
        some (80000, .moving, ⟨true, false, false, false⟩) &&
    (t.slots.get 3).crusher.suspension == some 640000) := by decide

def handedOver : State :=
  suspended.modSlot 3 (fun x => { x with crusher := { x.crusher with
    move := some { move with entry := entry .stnB 40 .set 260 (some 260), causes := ⟨true, false, true, true⟩, remaining := 80000 } } })

/-- Section 3.12: RESUME adopts a handed-over move and keeps the line stop's cause; a second one starts the travel timer again. -/
theorem test_resume : leaves (.resume (ask 3 [])) { handedOver with lineStop := ⟨true, true, none⟩ }
    (fun t => (t.slots.get 3).crusher.move.map (fun m => (m.entry.origin, m.entry.tag, m.causes)) ==
        some (.port .plant, 70, ⟨false, false, true, false⟩) &&
    repliesTo .plant t == [(.partialDone, .noReason, 70)])
    ∧ leaves (.resume (ask 3 [])) suspended (fun t => motionOf t == .moving && (t.slots.get 3).crusher.travel == some 80000) := by
  decide

/-- Section 3.8: GO clears the mark of the plant's staged entry, which starts. -/
theorem test_go :
    let s := coneIs (fun c => { c with queue := [{ entry .plant 9 .set 240 (some 240) with staged := true }] })
    leaves (.go (ask 0xFF [0, 0x08])) s (fun t => motionOf t == .moving && (t.slots.get 3).crusher.queue == [] &&
        repliesTo .plant t == [(.done, .noReason, 70)])
      ∧ leaves (.go (ask 0xFF [0, 0x08])) line (fun t => (repliesTo .plant t) == [(.refused, .nothingStaged, 70)]) := by decide

/-- R55: FLUSH ends the move and the entries, behind its own reply. -/
theorem test_flush : leaves (.flush (ask 3 [])) full (fun t => motionOf t == .idle &&
    repliesTo .plant t == [(.done, .noReason, 70), (.discarded, .flush, 13), (.discarded, .flush, 11), (.discarded, .flush, 12),
        (.discarded, .flush, 14), (.failed, .aborted, 70)]) := by decide

/-- Section 5.8: CALIBRATE enters the DRAIN stage and raises CALIBRATE. -/
theorem test_calibrate : leaves (.calibrate (ask 3 [])) line (fun t => motionOf t == .calibrating &&
    (t.slots.get 3).crusher.drainLimit == some 90000 && (t.slots.get 2).feeder.inhibits == ⟨false, false, false, true, false⟩ &&
    repliesTo .plant t == [(.started, .noReason, 70)]) := by decide

/-- Section 5.8: the contact at 12081 is accepted with a jump of 2 and the backoff aims at 10981; the one at 12130 is rejected
unmasked and taken masked. -/
theorem test_contacts :
    leaves (.positionSample 3 (good 12081)) (approaching.modSlot 3 (fun x => { x with position := ⟨true, 0, some 12081, some 74980⟩ }))
          (fun t => (t.slots.get 3).crusher.lastCal == some ⟨75, 12000, 12081, 14, 2, .accepted⟩ &&
    (t.slots.get 3).crusher.z == 12081 && (t.slots.get 3).crusher.w == 0 &&
    (t.slots.get 3).crusher.cal.map (fun r => (r.stage, r.target)) == some (.backoff, some 10981))
      ∧ (let near := fun (mask : CondSet) => { approaching.modSlot 3 (fun x => { x with
      mask := mask, position := ⟨true, 0, some 12130, some 74980⟩
      crusher := { x.crusher with cal := some { run with trace := [(73000, 12130)] } } }) with clock := 75000 }
    let seen := fun (t : State) => ((t.slots.get 3).crusher.lastCal.map (fun r => (r.jump, r.outcome)), (t.slots.get 3).crusher.z,
      (t.slots.get 3).crusher.cal.map (·.target))
    leaves (.positionSample 3 (good 12130)) (near 0) (fun t => (seen t) == (some (12, .rejected), 12000, some (some 10970)))
      ∧ leaves (.positionSample 3 (good 12130)) (near (CondSet.ofList [.calJump]))
          (fun t => (seen t) == (some (12, .adjusted), 12130, some (some 11030)))) := by
  decide

/-- Section 4.8: CLEAR_BLOCK with the switch released. -/
theorem test_clearBlock : leaves (.clearBlock (ask 3 [])) ((coneIs (fun c => { c with motion := .blocked .trampRepeat, history := [4200, 4450, 4610] })).modSlot 2
        (fun x => { x with feeder := { x.feeder with inhibits := ⟨true, false, false, false, false⟩ } }))
            (fun t => motionOf t == .idle && (t.slots.get 3).crusher.history == [] &&
            (t.slots.get 2).feeder.inhibits == .zero) := by decide

/-- Section 4.8: a relief during the move at 4200 s; its end at 4206 s; the end of the third inside the window, which blocks the cone. -/
theorem test_reliefs :
    leaves (.debounceExpiry (.relief 3)) { moving.modSlot 3 (fun x => { x with
          relief := ⟨true, false, some 4200000⟩, position := ⟨true, 0, some 10800, some 0⟩
          crusher := { x.crusher with history := [1000], travel := some 4290000 } }) with clock := 4200000 }
              (fun t => motionOf t == .relief && (t.slots.get 3).crusher.history == [1000, 4200] &&
              (t.slots.get 3).crusher.episode == some ⟨4200, some 10800, .moving, none, false⟩ &&
              (t.slots.get 3).driver.cmd == .hold && (t.slots.get 2).feeder.inhibits.relief)
      ∧ leaves (.debounceExpiry (.relief 3)) { relieved.modSlot 3 (fun x => { x with
          relief := ⟨false, true, some 4206000⟩, position := ⟨true, 0, some 9640, some 0⟩
          crusher := { x.crusher with history := [1000, 4200] } }) with clock := 4206000 } (fun t => motionOf t == .recovering &&
              (t.slots.get 3).crusher.history == [4200] && (t.slots.get 3).crusher.episode.bind (·.target) == some 10970 &&
              (t.slots.get 3).crusher.travel == some 4326000 && (t.slots.get 3).driver.cmd == ⟨some .closing, true, 11700⟩)
      ∧ leaves (.debounceExpiry (.relief 3)) { relieved.modSlot 3 (fun x => { x with
          relief := ⟨false, true, some 4612000⟩
          crusher := { x.crusher with history := [4200, 4450, 4610], queue := [entry .plant 8 .set 240 (some 240)] } }) with
        clock := 4612000 } (fun t => motionOf t == .blocked .trampRepeat && (t.slots.get 3).crusher.history == [4200, 4450, 4610] &&
            repliesTo .plant t == [(.failed, .trampRepeat, 70), (.discarded, .trampRepeat, 8)]) := by
  decide

theorem test_recovery_settles : leaves (.settleExpiry 3) ({ recovering with clock := 4290000 }.modSlot 3 (fun x => { x with
        position := ⟨true, 0, some 10968, some 0⟩
        crusher := { x.crusher with queue := [entry .stnA 5 .step (-10) none], settle := some 4290000 } }))
            (fun t => motionOf t == .moving && (t.slots.get 3).crusher.tf == 220 &&
            (t.slots.get 3).crusher.move.map (·.applied) == some (some 210) &&
            (t.slots.get 2).feeder.inhibits == ⟨false, true, false, false, false⟩ && (t.slots.get 3).crusher.restart == some 4300000 &&
            repliesTo .plant t == [(.done, .noReason, 70)]) := by decide

/-- Sections 3.5 and 3.8: a settle within DB ends the move DONE. -/
theorem test_settle : leaves (.settleExpiry 3) (settling.modSlot 3 (fun x => { x with position := ⟨true, 0, some 10967, some 0⟩, crusher := { x.crusher with stack := stack } }))
      (fun t => motionOf t == .idle &&
    (t.slots.get 3).crusher.tf == 220 && (t.slots.get 3).crusher.stack.newestFirst.map (·.gap) == [300, 240, 260, 280, 300, 320] &&
    (t.slots.get 3).conds.mem .historyWrap && repliesTo .plant t == [(.done, .noReason, 70)]) := by decide

/-- R46, R48, R43: the expiries of a move's timers. -/
theorem test_expiries : leaves (.travelExpiry 3) moving (fun t => motionOf t == .idle && repliesTo .plant t == [(.failed, .timeout, 70)])
    ∧ leaves (.suspensionExpiry 3) suspended (fun t => motionOf t == .idle && repliesTo .plant t == [(.failed, .suspendExpired, 70)])
    ∧ leaves (.drainLimitExpiry 1) draining (fun t => (t.slots.get 1).crusher.motion == .idle &&
        repliesTo .plant t == [(.failed, .drainTimeout, 70)]) := by decide

/-- R43: the fixed drain's end opens the jaw toward its target; R70, R72: recovery timer and restart delay. -/
theorem test_more_expiries :
    leaves (.fixedDrainExpiry 1) (draining.modSlot 1 (fun x => { x with cp := { x.cp with levelIn := false } }))
        (fun t => (t.slots.get 1).crusher.motion == .moving && (t.slots.get 1).driver.out == some .closing)
      ∧ leaves (.recoveryTimerExpiry 3) recovering (fun t => (motionOf t) == (.blocked .recoveryFail))
      ∧ leaves (.restartDelayExpiry 3) ((coneIs (fun c => { c with restart := some 10000 })).modSlot 2 (fun x => { x with
          feeder := { x.feeder with inhibits := ⟨false, true, false, false, false⟩ } }))
              (fun t => (t.slots.get 3).crusher.restart == none && (t.slots.get 2).feeder.inhibits == .zero) := by decide

/-- Section 10.8: at 10976 the drive turns and waits for the dwell, at whose expiry OPEN comes on; 10973 settles; the third bad sample
suspends a SETTLING move with cause SENSOR. -/
theorem test_positions :
    (let closing := moving.modSlot 3 (fun x => { x with driver := ⟨⟨some .closing, true, 11700⟩, some .closing, true, none, none⟩ })
    leaves (.positionSample 3 (good 10976)) closing (fun t => (t.slots.get 3).driver.out == none &&
        (t.slots.get 3).driver.last == some .closing)
      ∧ leaves (.dwellExpiry 3) (moving.modSlot 3 (fun x => { x with driver := ⟨⟨some .opening, true, 0⟩, none, false, some .closing, some 320⟩ }))
            (fun t => (t.slots.get 3).driver.out == some .opening &&
          (t.slots.get 3).driver.dwell == none)
      ∧ leaves (.positionSample 3 (good 10973)) closing (fun t => motionOf t == .settling && (t.slots.get 3).driver.cmd == .hold))
      ∧ leaves (.positionSample 3 bad) (settling.modSlot 3 (fun x => { x with position := ⟨true, 2, some 10973, some 0⟩ }))
            (fun t => motionOf t == .suspended &&
    (t.slots.get 3).crusher.move.map (·.causes) == some ⟨false, true, false, false⟩ &&
    (t.slots.get 3).conds.mem .positionInvalid) := by
  decide

/-- Section 5.8: pulses 1 and 5 carry; the fifth makes a TRIM. -/
theorem test_tonnage :
    let s := fun (w acc tonnes : Nat) => line.modSlot 3 (fun x => { x with
      cp := { x.cp with autoTrim := true, wearRate := 20000 }
      crusher := { x.crusher with w := w, acc := acc, tonnes := tonnes, wAtMove := 11 } })
    let seen := fun (t : State) => ((t.slots.get 3).crusher.acc, (t.slots.get 3).crusher.w, (t.slots.get 3).crusher.tonnes,
      (t.slots.get 3).crusher.move.map (·.entry.kind))
    leaves (.tonnageEdge 3) (s 14 50000 4210) (fun t => (seen t) == (4464, 15, 4211, none))
      ∧ leaves (.tonnageEdge 3) (s 15 64464 4214) (fun t => (seen t) == (18928, 16, 4215, some .trim)) := by decide

/-- Section 10.4: of edges at 0, 60 and 130 ms the one at 60 is dropped. -/
theorem test_tonnage_edges :
    let s := fun (now : Nat) => { line.modSlot 3 (fun x => { x with lastEdge := some 0 }) with clock := now }
    leaves (.tonnageEdge 3) (s 60) (fun t => (t.slots.get 3).crusher.tonnes == 0)
      ∧ leaves (.tonnageEdge 3) (s 130) (fun t => (t.slots.get 3).crusher.tonnes == 1) := by decide

/-- Section 6.6: one period at the power limit gives 498. -/
theorem test_regulation : leaves (.regulationPeriod 2) running (fun t => (t.slots.get 2).feeder.r == 498 &&
    (t.slots.get 2).feeder.regTimer == some 1000) := by decide

/-- Section 6.6: the first period after an inhibit lifts the seeded demand to R_MIN; an EMPTY bin forces 0. -/
theorem test_regulation_restart :
    leaves (.regulationPeriod 2) (running.modSlot 2 (fun x => { x with feeder := { x.feeder with rb := 550, r := 0, rPrev := 0, seed := true }, fp := { x.fp with wLim := 1000 } }))
          (fun t => (t.slots.get 2).feeder.r == 150 &&
        (t.slots.get 2).feeder.seed == false)
      ∧ leaves (.regulationPeriod 2) { running with bin := { running.bin with state := .empty } }
          (fun t => (t.slots.get 2).feeder.r == 0 && (t.slots.get 2).feeder.seed) := by decide

/-- Section 6.1: 655 + 2621 × 0.2 is the level 200, at which NORMAL becomes LOW; R165 to R168: an input in use starts its timer. -/
theorem test_bin_sample : leaves (.analogSample .bin 1180) line (fun t => t.bin.lastValid == 200 && t.bin.state == .low) := by decide

/-- Chapter 6: the feeder requests and the feedback. -/
theorem test_feed_requests : leaves (.setRate (ask 2 [0x02, 0x44, 1, 0x02, 0xBC])) line (fun t => (t.slots.get 2).feeder.rb == 580 &&
    (t.slots.get 2).feeder.mode == .level && (t.slots.get 2).feeder.ls == 700 && t.isDirty (.wear 2))
    ∧ leaves (.startFeed (ask 2 [])) line (fun t => (t.slots.get 2).feeder.run == .running &&
        (t.slots.get 2).feeder.confirmTimer == some 3000)
    ∧ leaves (.stopFeed (ask 2 [])) running (fun t => (t.slots.get 2).feeder.run == .stopped && (t.slots.get 2).feeder.r == 0)
    ∧ leaves (.runConfirmExpiry 2) (running.modSlot 2 (fun x => { x with feeder := { x.feeder with confirmTimer := some 3000 } }))
      (fun t => (t.slots.get 2).feeder.run == .fault &&
        (t.slots.get 2).conds.mem .feederFault) := by decide

/-- R105: START_LINE skips a locked-out feeder. -/
theorem test_startLine : leaves (.startLine (ask 0xFF [])) (running.modSlot 4 (fun x => { x with lockout := ⟨true, true, none⟩ }))
      (fun t => (t.ports.get .plant).tx.map (fun r => (r.disp, r.body)) == [(.partialDone, .slots 0x01 [(4, .lockout)])]) := by
  decide

/-- Section 10.8: the lockout loop opens at 19 ms, and its expiry at 69 ms ends the jaw's work. Section 7.11: selector A takes slots 0
and 1, discards the plant's entry and suspends its move. -/
theorem test_inputs :
    (leaves (.discreteInputChange (.lockout 1) false) { draining with clock := 19 }
        (fun t => (t.slots.get 1).lockout == ⟨true, false, some 69⟩)
      ∧ leaves (.debounceExpiry (.lockout 1)) (draining.modSlot 1 (fun x => { x with lockout := ⟨true, false, some 69⟩ }))
          (fun t => (t.slots.get 1).crusher.motion == .idle && (t.slots.get 0).feeder.inhibits == ⟨false, false, false, false, true⟩ &&
          repliesTo .plant t == [(.failed, .lockout, 70)]))
      ∧ leaves (.debounceExpiry .selectorA) ({ jawIs (fun c => { c with motion := .moving, move := some move, queue := [entry .plant 21 .step 10 none] }) with
        selectorA := ⟨true, false, some 50⟩ }) (fun t => (t.slots.get 0).holder == some .stnA &&
            (t.slots.get 1).holder == some .stnA && (t.slots.get 1).crusher.motion == .suspended &&
            (t.slots.get 3).holder == some .plant && repliesTo .plant t == [(.discarded, .handover, 21)]) := by
  decide

/-- Section 7.11: HAND of slots 2, 3 and 5 to station B. -/
theorem test_hand : leaves (.hand (ask 0xFF [0x2C, 2])) (line.modSlot 5 (fun x => { x with cp := { x.cp with area := .b } }))
    (fun t => (t.ports.get .plant).tx.map (fun r => (r.disp, r.body)) == [(.partialDone, .slots 0x28 [(2, .area)])]) := by decide

/-- R121, R122: TAKE of a slot of another holder; RELEASE. -/
theorem test_take_release :
    leaves (.take (from_ .stnB 0xFF [0x10])) line (fun t => (t.slots.get 4).holder == some .plant &&
        repliesTo .stnB t == [(.refused, .authority, 70)])
      ∧ leaves (.release (ask 0xFF [0x10])) line (fun t => (t.slots.get 4).holder == none &&
          repliesTo .plant t == [(.done, .noReason, 70)]) := by decide

/-- Section 7.11: a note to the plant, a second one, and the read. -/
theorem test_notes :
    let note : Note := ⟨.stnA, 3, [0x42]⟩
    let s := line.modPort .plant (fun q => { q with note := some note })
    leaves (.postNote (from_ .stnA 0xFF [0, 3, 0x42])) line (fun t => (t.ports.get .plant).note == (some note))
      ∧ leaves (.postNote (from_ .stnB 0xFF [0, 3])) s (fun t => (repliesTo .stnB t) == [(.refused, .boxFull, 70)])
      ∧ leaves (.readNote (ask 0xFF [])) s (fun t => (t.ports.get .plant).note == none &&
          (t.ports.get .plant).tx.map (·.body) == [.note note]) := by decide

/-- Section 7.11: anchor 1, UP, complement off holds slots 0 and 1. -/
theorem test_setHold : leaves (.setHold (ask 0xFF [1, 1, 0, 0])) line (fun t => t.heldSet == 0x03) := by decide

/-- Section 7.11: LOCK_PARAMS from a station, from the plant, and out of FROZEN. -/
theorem test_lockParams :
    let s := line.modSlot 5 (fun x => { x with holder := some .stnB })
    leaves (.lockParams (from_ .stnB 5 [1])) s (fun t => (repliesTo .stnB t) == [(.refused, .authority, 70)])
      ∧ leaves (.lockParams (ask 5 [1])) s (fun t => (t.slots.get 5).lock == .commissioned && t.isDirty (.param 5))
      ∧ leaves (.lockParams (ask 5 [0])) (s.modSlot 5 (fun x => { x with lock := .frozen, lockout := ⟨true, true, none⟩ }))
          (fun t => (repliesTo .plant t) == [(.refused, .locked, 70)]) := by decide

/-- The cone's record with ENV_MIN 250, in the byte order of R174. -/
def coneBytes : List Byte :=
  [2, 0x03, 0x33, 0, 0, 0, 0x3F, 0xFF, 60, 0, 250, 0x09, 0xC4, 4, 0, 200, 0x07, 0xD0, 0, 120, 0x02, 0x58, 0, 90, 0, 30, 0, 50, 0x01, 0x2C,
    0, 0, 5, 0, 10, 3, 0x02, 0x58, 10, 2, 2, 3, 0, 0]

/-- Section 1.9: narrowing the envelope to 250 clamps T_f; the final reply waits for the store. -/
theorem test_writeParams : leaves (.writeParams (ask 3 coneBytes)) line
    (fun t => (t.slots.get 3).cp == ({ coneParams with envMin := 250 } : CrusherParams) && (t.slots.get 3).crusher.tf == 250 &&
    t.isDirty (.param 3) && t.isDirty (.wear 3) && (t.slots.get 3).conds.mem .envelope && t.replies.map (·.disp) == [.doneAdjusted] &&
    repliesTo .plant t == [(.started, .noReason, 70)]) := by decide

/-- Recipe 3 of section 8.7, "40-ROAD". -/
def road : Recipe :=
  ⟨[0x34, 0x30, 0x2D, 0x52, 0x4F, 0x41, 0x44],
    [⟨0, .feed 700 .fixed 500⟩, ⟨2, .feed 520 .level 700⟩, ⟨3, .gap 240⟩, ⟨4, .feed 580 .level 700⟩, ⟨5, .gap 260⟩]⟩
def changing : State :=
  { (((line.modSlot 0 (fun x => { x with feeder := { x.feeder with rb := 700 } })).modSlot 2 (fun x => { x with
        feeder := { x.feeder with rb := 600, mode := .level, ls := 700 } })).modSlot 4 (fun x => { x with holder := some .stnB })).modSlot 5
      (fun x => { x with crusher := { x.crusher with motion := .moving, move := some move } }) with
    recipes := line.recipes.set 3 (some road), lastChangeId := 6 }

/-- Section 8.7: the change at its creation. -/
theorem test_applyRecipe : leaves (.applyRecipe (ask 0xFF [3, 0, 0, 0])) changing
    (fun t => t.change.map (fun c => (c.id, c.wave, c.items.map (·.state))) == some (7, 2, [.pending, .done, .active, .skipped, .active]) &&
    (t.slots.get 2).feeder.rb == 520 && (t.slots.get 3).crusher.move.map (·.target) == some 10870 &&
    (t.slots.get 5).crusher.queue.map (·.applied) == [some 260] && repliesTo .plant t == [(.started, .noReason, 70)]) := by decide

/-- A change with one item left, for its ends. -/
def lastItem : State :=
  { line with change := some ⟨7, .plant, 50, 1, true, 3, .staged, 2, 120000, [⟨2, .feeder, .feed 520 .level 700, 1, .done, .noReason, some 520⟩,
    ⟨3, .cone, .gap 240, 2, .pending, .noReason, none⟩]⟩, lastChangeId := 7 }

/-- Section 8.7: the expiry of the change timer, and ABORT_CHANGE. -/
theorem test_change_ends : leaves .changeTimerExpiry lastItem (fun t => t.change == none &&
    repliesTo .plant t == [(.partialDone, .timeout, 50)])
    ∧ leaves (.abortChange (ask 0xFF [7])) lastItem
        (fun t => (t.ports.get .plant).tx.map (fun r => (r.disp, r.body)) ==
            [(.partialDone, .changeItems 7 3 [⟨2, .done, .noReason, some 520⟩, ⟨3, .skipped, .aborted, none⟩]), (.done, .changeOutcome .partialDone .aborted)]) := by decide

/-- R135 to R138: SAVE_RECIPE of the current settings, its read, and the store. -/
theorem test_recipes : leaves (.saveRecipe (ask 0xFF [3, 1, 1, 0x41, 0])) line
    (fun t => (t.recipes.get 3).map (fun r => (r.name, r.entries.length)) == some ([0x41], 6) && t.isDirty (.recipe 3) &&
    t.replies.length == 1)
    ∧ leaves (.readRecipe (ask 0xFF [3])) changing (fun t => (t.ports.get .plant).tx.map (·.body) == [.recipe (some road)]) := by decide

/-- R180 to R182: the lowest dirty record is written first; a failed write answers STORE_FAULT. -/
theorem test_store : leaves .storeWriteStart { line with dirty := 0x1000200 } (fun t => t.writing.map (·.record) == some (.param 3) &&
    t.dirty == 0x1000000)
    ∧ leaves (.storeWriteComplete false) { line with
        writing := some ⟨.param 3, line.image (.param 3), 0⟩, replies := [⟨.param 3, .plant, .writeParams, 9, 1, 3, .done, .noReason⟩] }
          (fun t => t.writing.isNone &&
            (t.slots.get 3).conds.mem .storeFault && repliesTo .plant t == [(.failed, .storeFault, 9)]) := by decide

/-- R17, R60, R77, R134: the reports. -/
theorem test_reads : leaves (.readSlot (ask 3 [0])) line (fun t => (t.ports.get .plant).tx.map (fun r => match r.body with
        | .slotState x => x.crusher.map (fun c => (c.pTf, c.relation))
        | _ => none) == [some (some 10970, .openOf)])
    ∧ leaves (.readQueue (ask 3 [])) full (fun t => (t.ports.get .plant).tx.map (fun r => match r.body with
        | .queue q => (q.motion, q.queue.length)
        | _ => (.idle, 0)) == [(.moving, 4)])
    ∧ leaves (.readLine (ask 0xFF [])) line (fun t => (t.ports.get .plant).tx.map (fun r => match r.body with
        | .line l => (l.binState, l.binLevel)
        | _ => (.empty, 0)) == [(.normal, 500)])
    ∧ leaves (.readReliefs (ask 3 [])) relieved (fun t => (t.ports.get .plant).tx.map (fun r => match r.body with
        | .reliefs l => (l.asserted, l.history)
        | _ => (false, [])) == [(true, [4200])]) := by decide

/-- R17: part 1 returns the record of the slot's kind and the lock mode, a JAW's AUTO_TRIM off (R2); R134: what is shown of an item. -/
theorem test_reads_shown :
    let body := fun (t : State) => (t.ports.get .plant).tx.map (·.body)
    leaves (.readSlot (ask 3 [1])) line (fun t => body t == [.slotRecord (.crusher .cone coneParams) .openMode])
    ∧ leaves (.readSlot (ask 1 [1])) (line.modSlot 1 (fun x => { x with cp := { coneParams with autoTrim := true } }))
        (fun t => body t == [.slotRecord (.crusher .jaw coneParams) .openMode])
    ∧ leaves (.readLine (ask 0xFF [])) lastItem (fun t => (body t).map (fun b => match b with
        | .line l => l.change.map (·.items)
        | _ => none) == [some [⟨2, .feeder, .done, .noReason⟩, ⟨3, .cone, .pending, .noReason⟩]]) := by decide

/-- R154 to R158: masks, conditions, subscriptions. -/
theorem test_masks :
    let s := line.modSlot 3 (fun x => { x with conds := CondSet.ofList [.moveTimeout] })
    leaves (.setMask (ask 0xFF [0x08, 0, 0, 0x42])) line
        (fun t => (t.slots.get 3).mask == (CondSet.ofList [.envelope, .reach, .positionInvalid, .calJump, .wearLimit]))
      ∧ leaves (.clearMask (ask 0xFF [0x08, 0, 0, 0x01])) line (fun t => (t.slots.get 3).mask.mem .envelope == false)
      ∧ leaves (.clearConditions (ask 0xFF [0x08, 0])) s (fun t => (t.slots.get 3).conds == 0)
      ∧ leaves (.subscribe (ask 0xFF [0x00, 0x02])) line (fun t => (t.ports.get .plant).subs == 2) := by decide

/-- R177 to R179: ECHO, a KIND that is no code, LINE_RESET. -/
theorem test_link_requests : leaves (.echo (from_ .stnA 0xFF [1, 2])) line
    (fun t => (t.ports.get .stnA).tx == [⟨0x01, .done, .noReason, 70, 1, 0xFF, .echoed [1, 2]⟩])
    ∧ leaves (.badKindRequest 0x99 (ask 3 [])) line (fun t => (t.ports.get .plant).tx == [⟨0x99, .refused, .badKind, 70, 1, 3, .empty⟩])
    ∧ leaves (.lineReset (ask 0xFF [])) full (fun t => motionOf t == .idle && (t.slots.get 3).holder == none &&
        (t.ports.get .plant).reqno == 0 && repliesTo .plant t == [(.done, .noReason, 70)]) := by decide

/-- R171, R172: the bytes of an ECHO frame with the payload 0x41, received one by one, and their gap. -/
theorem test_receive : (match sendBytes line .plant (requestBytes 0x01 (ask 0xFF [0x41])) with
      | .next t => (t.ports.get .plant).tx.map (·.body)
      | _ => []) = [.echoed [0x41]]
    ∧ leaves (.interCharacterGap .plant) (line.setAsm .plant (.collect [5] 0))
        (fun t => (t.ports.get .plant).asm == .hunt) := by decide +kernel

/-- R159, R176: a reply goes ahead of a notice, and a frame's end frees the transmitter. -/
theorem test_transmit :
    let rep : Reply := ⟨0x01, .done, .noReason, 70, 1, 0xFF, .empty⟩
    let note : Notice := ⟨0, none, .lineStop true⟩
    leaves (.transmitTake .plant) (line.modPort .plant (fun q => { q with tx := [rep], notices := [note] }))
        (fun t => (t.ports.get .plant).sending == some (.reply rep) && (t.ports.get .plant).tx == [])
      ∧ leaves (.frameTransmitted .plant) (line.modPort .plant (fun q => { q with sending := some (.reply rep) }))
          (fun t => (t.ports.get .plant).sending == none) := by decide

def scan : InputScan :=
  ⟨true, true, 1180, true, true, true, .all ⟨2000, 2000, false, true, false, good 9000, bad, bad⟩⟩

/-- R170, R183: the straps and the scan at power-on, the end of start-up, and the loss of power. -/
theorem test_power : leaves (.powerOn scan) { line with phase := .off } (fun t => t.phase == .startUp && t.rateStrap &&
    t.enabled .stnB == false && t.bin.lastValid == 200 && (t.slots.get 3).lockout == ⟨false, false, none⟩)
    ∧ leaves .startUpEnd { line with phase := .startUp } (fun t => t.phase == .running && (t.slots.get 3).holder == none)
    ∧ leaves .powerLoss line (fun t => t.phase == .off && t.freeDraws == 0) := by decide +kernel

/-- R79: a stored W of 400 and W_at_move of 350 meet a WEAR_MAX of 300 at power-on. -/
theorem test_wear_at_power_on :
    let c : ParamImage := ⟨.cone, coneParams, .default, .openMode, .openMode⟩
    let w : WearImage := { tf := 220, w := 400, accHigh := 0, tonnes := 0, wAtMove := 350, rb := 0, mode := .fixed, ls := 0 }
    let v : Nonvolatile := { State.reset.store with
      params := State.reset.store.params.set 3 ⟨c, (Image.param c).check⟩, wears := State.reset.store.wears.set 3 ⟨w, (Image.wear w).check⟩ }
    (v.crusherOf 3).w = 300 ∧ (v.crusherOf 3).wAtMove = 300 := by
  intro c w v
  have hp : v.good (.param 3) = true := (v.good_iff _).2 rfl
  have hw : v.good (.wear 3) = true := (v.good_iff _).2 rfl
  have hm : (v.paramOf 3).cp.wearMax = 300 := by unfold Nonvolatile.paramOf; rw [if_pos hp]; rfl
  have h := v.crusherOf_wear 3
  rw [hw, hm] at h
  exact ⟨h.1, h.2.trans (by rw [h.1]; rfl)⟩

/-- The FEEDER_STATE notices that wait at the plant, as slot and inhibit set. -/
def feederNotices (t : State) : List (Option SlotId × Inhibits) :=
  (t.ports.get .plant).notices.filterMap (fun n => match n.body with
    | .feederState _ inhibits _ _ => some (n.slot, inhibits)
    | _ => none)

/-- R117: the two changes of the inhibit set at 4290 in section 6.6 send a notice each; the LOCKOUT of a crusher in place of RELIEF
sends one, also where the lockout closes a recovery and a wear block is taken at the same event. -/
theorem test_feeder_notices :
    let relief := fun (s : State) => s.modSlot 2 (fun x => { x with feeder := { x.feeder with inhibits := ⟨true, false, false, false, false⟩ } })
    leaves (.settleExpiry 3) (relief (recovering.modSlot 3 (fun x => { x with position := ⟨true, 0, some 10968, some 0⟩ })))
        (fun t => (feederNotices t).length == 2
          && (feederNotices t).getLast? == some (some 2, ⟨false, true, false, false, false⟩))
      ∧ leaves (.debounceExpiry (.lockout 3)) (relief (relieved.modSlot 3 (fun x => { x with lockout := ⟨true, false, some 50⟩ })))
          (fun t => feederNotices t == [(some 2, ⟨false, false, false, false, true⟩)])
      ∧ leaves (.debounceExpiry (.lockout 3)) (relief (recovering.modSlot 3 (fun x => { x with
          lockout := ⟨true, false, some 50⟩, crusher := { x.crusher with wearBlock := true } })))
            (fun t => feederNotices t == [(some 2, ⟨false, false, false, true, true⟩)]) := by decide

/-- R159, R183: at the end of start-up the notices of two locked-out crushers join in the order of their feeders' slots. -/
theorem test_startUpEnd_order :
    let open_ := fun (i f : SlotId) (s : State) => s.modSlot i (fun x => { x with
      lockout := ⟨true, true, none⟩, cp := { x.cp with linkedFeeder := some f } })
    leaves .startUpEnd { open_ 1 4 (open_ 3 2 (line.modSlot 5 (fun x => { x with cp := { x.cp with linkedFeeder := none } }))) with phase := .startUp }
      (fun t => (feederNotices t).map (·.1) == [some 2, some 4]) := by decide +kernel

/-- R62, R183: a relief switch found asserted at the scan and released before start-up ends keeps its state, gives its relief start at that
end, and its relief end at the expiry taken behind it. -/
theorem test_scan_acts_at_startUpEnd :
    let found := fun (phase : Phase) => { line.modSlot 3 (fun x => { x with relief := ⟨false, true, some 50⟩ }) with phase := phase }
    leaves (.debounceExpiry (.relief 3)) (found .startUp) (fun t => (t.slots.get 3).relief == ⟨false, true, some 50⟩)
      ∧ leaves .startUpEnd (found .startUp) (fun t => (t.slots.get 3).crusher.motion == .relief
          && (match exec (.debounceExpiry (.relief 3)) t with
            | .next u => (u.slots.get 3).crusher.motion == .recovering && (u.slots.get 3).relief == ⟨false, false, none⟩
            | _ => false)) := by decide +kernel

/-- R6, R9, R180: a feeder does not serve itself; a record of kind NONE ends the fault of an unused slot and marks its three records. -/
theorem test_unused_slot : line.recordValid 6 (.feeder { FeederParams.default with served := some 3 }) = true
    ∧ line.recordValid 3 (.feeder { FeederParams.default with served := some 3 }) = false
    ∧ leaves (.writeParams (ask 6 [0])) (line.modSlot 6 (fun x => { x with unusedFault := true }))
        (fun t => (t.slots.get 6).unusedFault == false && t.isDirty (.param 6) && t.isDirty (.cal 6) && t.isDirty (.wear 6)) := by
  decide

/-! ### Witnesses: states and operands that meet the hypotheses of each statement -/

def stopped : State := { line with lineStop := ⟨true, true, none⟩ }
def held : State := { line with hold := some ⟨3, false, false⟩ }
def locked (s : State) (i : SlotId) : State := s.modSlot i (fun x => { x with lockout := ⟨true, true, none⟩ })
def isLocal : State := { line with selectorB := ⟨true, true, none⟩ }
def noPortB : State := { line with portBStrap := true }
def unmasked (s : State) (i : SlotId) : State := s.modSlot i (fun x => { x with mask := 0 })
def dueIn (k : DiscreteInput) (raw state : Bool) (s : State) : State := s.setDiscrete k ⟨raw, state, some 50⟩
def reply : Reply := ⟨0x01, .done, .noReason, 70, 1, 0xFF, .empty⟩
def notice : Notice := ⟨0, none, .lineStop true⟩
def portFull : State := line.modPort .plant (fun q => { q with tx := List.replicate 64 reply, notices := List.replicate 16 notice })

theorem witness_QueueBoundsAreKept : ∃ s t : State, PortLaw s ∧ QueueLaw s ∧ step s = .next t
    ∧ (s.ports.get .plant).tx.length = 64 ∧ (s.ports.get .plant).notices.length = 16 ∧ (s.slots.get 3).crusher.queue.length = 4 := by
  refine ⟨{ full with ports := portFull.ports, pending := [.transmitTake .plant] }, _, ?_, ?_, rfl, ?_, ?_, ?_⟩
  · intro p; cases p <;> decide
  · unfold QueueLaw; decide
  all_goals decide

/-- A feeder at R_MIN. -/
theorem witness_FeedLawIsKept : ∃ s t : State, FeedLaw s ∧ step s = .next t ∧ (s.slots.get 2).feeder.r = (s.slots.get 2).fp.rMin := by
  refine ⟨running.modSlot 2 (fun x => { x with feeder := { x.feeder with r := 150 } }), _, ?_, rfl, ?_⟩
  · unfold FeedLaw; decide
  · decide

def driven : State :=
  moving.modSlot 3 (fun x => { x with driver := ⟨⟨some .closing, true, 11700⟩, some .closing, true, none, none⟩ })

theorem driven_meets_MotionLaw : MotionLaw driven := by
  intro i; fin_cases i <;> simp +decide [MotionCoherent, driven, moving, coneIs] <;> exact True.intro

theorem driven_meets_DriveLaw : DriveLaw driven := by
  intro i; fin_cases i <;> simp +decide

theorem witness_MotionLawIsKept : ∃ s t : State, MotionLaw s ∧ DriveLaw s ∧ step s = .next t ∧ motionOf s = .moving
    ∧ (s.slots.get 3).driver.out = some .closing :=
  ⟨driven, _, driven_meets_MotionLaw, driven_meets_DriveLaw, rfl, by decide, by decide⟩

/-- A cone with W at WEAR_MAX and W_at_move at W. -/
theorem witness_MotionLawIsKept_wear : ∃ s t : State, WearLaw s ∧ step s = .next t
    ∧ (s.slots.get 3).crusher.w = (s.slots.get 3).cp.wearMax ∧ (s.slots.get 3).crusher.wAtMove = (s.slots.get 3).crusher.w := by
  refine ⟨coneIs (fun c => { c with w := 300, wAtMove := 300 }), _, ?_, rfl, ?_, ?_⟩
  · unfold WearLaw; decide
  all_goals decide

/-- Cone A locked out, with LOCKOUT on its feeder. -/
def shut : State := (locked line 3).modSlot 2 (fun x => { x with feeder := { x.feeder with inhibits := ⟨false, false, false, false, true⟩ } })

theorem witness_LockoutHoldsTheFeedOff : ∃ t : State, (∀ scan, Instr.flush (ask 3 []) ≠ .powerOn scan) ∧ LinkLaw shut ∧ LockoutLaw shut
    ∧ FeedLaw shut ∧ exec (.flush (ask 3 [])) shut = .next t ∧ t.phase = .running ∧ (t.slots.get 3).kind.isCrusher = true
    ∧ (t.slots.get 3).lockout.state = true ∧ (t.slots.get 3).cp.linkedFeeder = some 2 := by
  refine ⟨_, (fun _ h => nomatch h), ?_, ?_, ?_, rfl, ?_, ?_, ?_, ?_⟩
  · unfold LinkLaw; decide
  · unfold LockoutLaw; decide
  · unfold FeedLaw; decide
  all_goals decide

/-- Each port that does not take frames, and one that does with 63 replies waiting; lengths either side of SET_GAP's; no code. -/
theorem witness_EveryRequestTakenIsAnswered : portFull.takes .plant = false ∧ noPortB.takes .stnB = false
    ∧ State.takes { line with phase := .startUp } .plant = false
    ∧ (line.modPort .plant (fun q => { q with tx := List.replicate 63 reply })).takes .plant = true
    ∧ ReqCode.setGap.admits (ask 3 [0]) = false ∧ ReqCode.setGap.admits (ask 3 [0, 0, 0]) = false ∧ ReqCode.ofByte 0x29 = none
    ∧ ReqCode.ofByte 0x00 = none := by and_intros <;> decide

theorem witness_FrameBytesSpellTheRequest : line.linkUp .plant = true ∧ (line.ports.get .plant).asm = .hunt
    ∧ (ask 0xFF (List.replicate 241 0)).payload.length ≤ 241 ∧ ReqCode.ofByte 0x29 = none := by and_intros <;> decide +kernel

def collecting (got : List Byte) (now : Nat) : State := { line.setAsm .plant (.collect got 0) with clock := now }

/-- The assembler in HUNT; at and past the 20 ms gap; at LEN; before the last byte of the check field; and at it, where the check fails. -/
theorem witness_AssemblerTakesCharacters : (collecting [] 20).linkUp .plant = true ∧ (line.ports.get .plant).asm = .hunt
    ∧ ((collecting [] 20).ports.get .plant).asm = .collect [] 0 ∧ 0 + 20 < (collecting [] 21).clock ∧ (collecting [] 20).clock ≤ 0 + 20
    ∧ [(1 : Byte), 0, 0, 0, 0].length < (5 : Byte).toNat + 1 ∧ [(1 : Byte), 0, 0, 0, 0, 0].length = (5 : Byte).toNat + 1
    ∧ checkPasses ([5, 1, 0, 0, 0, 0, 0] ++ [0]) = false := by and_intros <;> decide +kernel

theorem witness_Transmitter :
    let p := fun (f : PortState → PortState) => (line.modPort .plant f).ports.get .plant
    line.linkUp .plant = true ∧ (p (fun q => { q with sending := some (.reply reply) })).sending.isSome = true
      ∧ ((p (fun q => { q with tx := [reply], notices := [notice] })).sending = none
        ∧ (p (fun q => { q with tx := [reply], notices := [notice] })).tx = reply :: []
        ∧ (p (fun q => { q with tx := [reply], notices := [notice] })).noticeTurn = false)
      ∧ ((p (fun q => { q with notices := [notice] })).notices = notice :: [] ∧ (p (fun q => { q with notices := [notice] })).tx = [])
      ∧ (p (fun q => { q with tx := [reply], notices := [notice], noticeTurn := true })).noticeTurn = true
      ∧ (p id).tx = [] ∧ (p id).notices = [] := by
  intro p; subst p; and_intros <;> decide

theorem witness_EchoReturnsItsPayload : line.takes .plant = true ∧ 239 ≤ (ask 0xFF (List.replicate 239 0)).payload.length
    ∧ (ask 0xFF (List.replicate 238 0)).payload.length ≤ 238 ∧ (ask 0xFE []).slot ≠ 0xFF ∧ (ask 0xFF []).slot = 0xFF := by
  and_intros <;> decide +kernel

theorem witness_ReadsReportAndChangeNothing : Taken line .readSlot (ask 7 [0]) ∧ slotOfByte 7 = some 7 ∧ Taken line .readSlot (ask 3 [1])
    ∧ Taken line .readSlot (ask 3 [2]) ∧ (line.slots.get 3).kind ≠ .unused ∧ Taken line .readQueue (ask 1 [])
      ∧ (line.slots.get 1).kind.isCrusher = true
    ∧ Taken line .readReliefs (ask 3 []) ∧ (line.slots.get 3).kind = .cone ∧ Taken line .readLine (ask 0xFF [])
    ∧ Taken line .readRecipe (ask 0xFF [7]) ∧ slotOfByte 7 = some 7 ∧ slotOfByte 8 = none := by and_intros <;> decide

/-- The nominal target; a masked REACH at the close limit, where the report shows none; and an invalid reading. -/
theorem witness_TargetsLieWithinReach : (targetFor coneParams 12000 14 false 220).pos = some 10970
    ∧ (targetFor coneParams 12000 14 false 220).reach = false ∧ (targetFor coneParams 12000 200 true 220).pos = some 11700
    ∧ reportTarget coneParams 12000 14 220 = some 10970 ∧ reportTarget coneParams 12000 200 220 = none := by and_intros <;> decide

theorem witness_NoteBoxes :
    let n : Note := ⟨.stnA, 3, []⟩
    let s := line.modPort .plant (fun q => { q with note := some n })
    let text := fun (k : Nat) => from_ .stnA 0xFF (0 :: 3 :: List.replicate k 0x41)
    (text 32).slot = 0xFF ∧ Taken line .postNote (text 32) ∧ Port.ofByte (byteAt (text 32).payload 0) = some .plant
      ∧ Port.plant ≠ (text 32).port ∧ line.enabled .plant = true ∧ (text 32).payload.length ≤ 34 ∧ (line.ports.get .plant).note = none
      ∧ (s.ports.get .plant).note.isSome = true ∧ 34 < (text 33).payload.length ∧ Taken line .postNote (text 33)
      ∧ Port.ofByte 2 = some .stnB ∧ noPortB.enabled .stnB = false ∧ Port.ofByte 3 = none
      ∧ Taken s .readNote (ask 0xFF []) ∧ (s.ports.get .plant).note = some n ∧ Taken line .lineReset (ask 0xFF [])
      ∧ Port.plant ≠ .stnA := by
  intro n s text; subst n s text; and_intros <;> decide

theorem witness_NoteBoxes_power_on : ∃ t u, exec (.powerOn scan) line = .next t ∧ exec .startUpEnd t = .next u := ⟨_, _, rfl, rfl⟩

theorem witness_RefusalsComeInOrder : Taken line .setGap (ask 6 [0, 220]) ∧ (line.slots.get 6).kind.isCrusher = false
    ∧ Taken line .startFeed (ask 3 []) ∧ (line.slots.get 3).kind ≠ .feeder ∧ slotOfByte 0xFF = none
    ∧ (Taken isLocal .setGap (from_ .stnB 3 [0, 220]) ∧ (isLocal.slots.get 3).holder ≠ some .stnB ∧ isLocal.localStation 3 = some .stnB)
    ∧ (Taken isLocal .setGap (from_ .stnA 3 [0, 220]) ∧ line.localStation 3 = none)
    ∧ ((locked line 3).slots.get 3).lockout.state = true ∧ ((locked line 3).slots.get 3).holder = some .plant
    ∧ (stopped.lineStop.state = true ∧ (stopped.slots.get 3).lockout.state = false)
    ∧ (held.held 3 = true ∧ held.lineStop.state = false ∧ held.held 4 = false)
    ∧ (Taken line .calibrate (ask 3 []) ∧ Taken line .suspend (ask 3 []) ∧ ReqCode.calibrate ∈ [ReqCode.setGap, .stepGap, .recallGap, .calibrate])
    ∧ (Unbarred (coneMoves (.blocked .wearLimit)) 3 ∧ ∃ b, ((coneMoves (.blocked .wearLimit)).slots.get 3).crusher.motion = .blocked b) := by
  and_intros <;> first | decide | exact ⟨_, rfl⟩

theorem witness_TakeGrantsSlots : Taken line .take (ask 0xFF [0xFF]) ∧ (ask 0xFE [0xFF]).slot ≠ 0xFF
    ∧ slotIds.filter (fun i => ((0 : Byte)).getLsbD i.val) = [] ∧ slotIds.filter (fun i => ((0xFF : Byte)).getLsbD i.val) ≠ [] := by
  and_intros <;> decide

theorem witness_ReleaseAndHandMoveTheHolder :
    (ask 0xFF [0x2C]).slot = 0xFF ∧ slotIds.filter (fun i => (byteAt (ask 0xFF [0x2C]).payload 0).getLsbD i.val) ≠ []
      ∧ (∀ i ∈ slotIds.filter (fun i => (byteAt (ask 0xFF [0x2C]).payload 0).getLsbD i.val), NoWorkOf line i .plant)
      ∧ Taken line .release (ask 0xFF [0x2C]) ∧ Taken line .hand (ask 0xFF [0x2C, 2]) ∧ Port.ofByte 2 = some .stnB
      ∧ Port.stnB ≠ (ask 0xFF [0x2C, 2]).port ∧ line.enabled .stnB = true ∧ Port.ofByte 3 = none := by
  and_intros <;> decide

/-- Station B's move, with the plant's entry behind it. -/
def ofStationB (s : State) : State := s.modSlot 3 (fun x => { x with
  holder := some .stnB
  crusher := { x.crusher with
    move := x.crusher.move.map (fun m => { m with entry := entry .stnB 40 .set 260 (some 260) })
    queue := [entry .plant 21 .step 10 none] } })

theorem witness_HandoverKeepsTheMove : ∀ s ∈ [ofStationB moving, ofStationB suspended, ofStationB relieved, ofStationB line],
    Taken s .release (from_ .stnB 0xFF [0x08]) ∧ slotIds.filter (fun i => (byteAt [(0x08 : Byte)] 0).getLsbD i.val) = [3]
      ∧ (s.slots.get 3).holder = some .stnB ∧ s.localStation 3 ≠ some .stnB ∧ s.change = none := by
  intro s h; simp only [List.mem_cons, List.not_mem_nil, or_false] at h
  rcases h with rfl | rfl | rfl | rfl <;> and_intros <;> decide

theorem witness_HandoverKeepsTheMove_states : ((ofStationB moving).slots.get 3).crusher.motion = .moving
    ∧ (((ofStationB moving).slots.get 3).crusher.move.map (·.entry.origin)) = some (.port .stnB)
    ∧ ((ofStationB suspended).slots.get 3).crusher.motion = .suspended ∧ ((ofStationB relieved).slots.get 3).crusher.motion = .relief
    ∧ ((ofStationB line).slots.get 3).crusher.move = none := by and_intros <;> decide

theorem witness_SelectorsMoveTheArea : line.phase = .running ∧ ((dueIn .selectorA true false line).discrete .selectorA).timer = some 50
    ∧ ((dueIn .selectorA true false line).discrete .selectorA).raw ≠ ((dueIn .selectorA true false line).discrete .selectorA).state
    ∧ ((dueIn .selectorB false true line).discrete .selectorB).timer = some 50
    ∧ ((dueIn .selectorB false true line).discrete .selectorB).raw ≠ ((dueIn .selectorB false true line).discrete .selectorB).state := by
  and_intros <;> decide

theorem witness_SetHoldHoldsTheSpan : Taken line .setHold (ask 0xFF [1, 7, 1, 1]) ∧ Taken line .setHold (from_ .stnA 0xFF [0, 0, 0, 0])
    ∧ (∀ i : SlotId, (line.slots.get i).kind.isCrusher = true → NothingToStart (line.slots.get i)) ∧ (2 : Byte) ≠ 0 ∧ (2 : Byte) ≠ 1
    ∧ (Taken line .setHold (ask 0xFF [1, 8, 0, 0]) ∧ 8 ≤ (8 : Byte).toNat ∧ 2 ≤ (2 : Byte).toNat)
    ∧ slotOfByte 7 = some 7 ∧ slotOfByte 0 = some 0 ∧ (1 : Byte).toNat ≤ 1 ∧ held.hold = some ⟨3, false, false⟩ := by and_intros <;> decide

theorem witness_LineStopStopsTheFeeders : line.phase = .running ∧ (dueIn .lineStop true false running).lineStop = ⟨true, false, some 50⟩
    ∧ ((dueIn .lineStop true false running).slots.get 2).feeder.run = .running
    ∧ ((feederIs (fun f => { f with run := .fault })).slots.get 2).feeder.run = .fault
    ∧ (dueIn .lineStop false true running).lineStop = ⟨false, true, some 50⟩
    ∧ (dueIn .lineStop false true running).phase = .running ∧ OnFeeder (dueIn .lineStop false true running) .startFeed (ask 2 []) 2
    ∧ ((dueIn .lineStop false true running).slots.get 2).lockout.state = false
    ∧ Taken (dueIn .lineStop false true running) .startLine (ask 0xFF []) := by and_intros <;> decide

theorem witness_LineStopSuspendsTheMoves :
    ∀ s ∈ [dueIn .lineStop true false moving, dueIn .lineStop true false suspended, dueIn .lineStop true false relieved,
        dueIn .lineStop true false approaching, dueIn .lineStop true false (coneMoves (.blocked .wearLimit))],
      MotionLaw s ∧ s.phase = .running ∧ s.lineStop = ⟨true, false, some 50⟩ ∧ (s.slots.get 3).kind.isCrusher = true := by
  intro s h; simp only [List.mem_cons, List.not_mem_nil, or_false] at h
  rcases h with rfl | rfl | rfl | rfl | rfl <;> refine ⟨?_, by decide, by decide, by decide⟩ <;> intro i <;> fin_cases i <;>
    simp +decide [MotionCoherent] <;> exact True.intro

theorem witness_LockoutEndsMotionWork :
    ∀ s ∈ [dueIn (.lockout 3) true false moving, dueIn (.lockout 3) true false relieved, dueIn (.lockout 3) true false recovering,
        dueIn (.lockout 3) true false approaching, dueIn (.lockout 3) true false (coneMoves (.blocked .wearLimit))],
      MotionLaw s ∧ FeedLaw s ∧ s.phase = .running ∧ (s.slots.get 3).kind.isCrusher = true
        ∧ (s.slots.get 3).lockout = ⟨true, false, some 50⟩ ∧ s.change = none := by
  intro s h; simp only [List.mem_cons, List.not_mem_nil, or_false] at h
  rcases h with rfl | rfl | rfl | rfl | rfl <;> refine ⟨?_, by unfold FeedLaw; decide, by decide, by decide, by decide, by decide⟩ <;> intro i <;>
    fin_cases i <;> simp +decide [MotionCoherent] <;> exact True.intro

/-- Four entries queued, eight notices waiting. -/
theorem witness_LockoutEndsMotionWork_notice :
    let s := (dueIn (.lockout 3) true false full).modPort .plant (fun q => { q with notices := List.replicate 8 notice })
    (s.slots.get 3).cp.linkedFeeder = some 2 ∧ (s.slots.get 2).feeder.inhibits.lockout = false ∧ s.change = none
      ∧ (s.slots.get 3).crusher.queue.length ≤ 4 ∧ s.enabled .plant = true ∧ (s.ports.get .plant).subs = NoticeSet.every
      ∧ (s.ports.get .plant).notices.length ≤ 8 ∧ (s.slots.get 3).lockout = ⟨true, false, some 50⟩ := by
  intro s; subst s; and_intros <;> decide

/-- A relief episode that the lockout has abandoned. -/
def abandoned : State :=
  (relieved.modSlot 3 (fun x => { x with
    crusher := { x.crusher with move := none, episode := some { episode with target := none, returnTo := .idle, abandoned := true } } })).modSlot 2
    (fun x => { x with feeder := { x.feeder with inhibits := ⟨false, false, false, false, true⟩ } })

/-- The release of a lockout in IDLE and over an abandoned episode, and the lockout of a feeder, RUNNING and STOPPED. -/
theorem witness_LockoutEndsMotionWork_release :
    (∀ s ∈ [dueIn (.lockout 3) false true shut, dueIn (.lockout 3) false true abandoned],
        MotionLaw s ∧ FeedLaw s ∧ s.phase = .running ∧ (s.slots.get 3).kind.isCrusher = true
          ∧ (s.slots.get 3).lockout = ⟨false, true, some 50⟩ ∧ NothingToStart (s.slots.get 3) ∧ s.change = none)
      ∧ (abandoned.slots.get 3).crusher.motion = .relief ∧ (shut.slots.get 3).crusher.motion ≠ .relief
      ∧ (running.phase = .running ∧ (running.slots.get 2).kind = .feeder ∧ (running.slots.get 2).feeder.run ≠ .stopped
        ∧ ((dueIn (.lockout 2) true false running).slots.get 2).lockout = ⟨true, false, some 50⟩
        ∧ ((dueIn (.lockout 2) false true line).slots.get 2).lockout = ⟨false, true, some 50⟩
        ∧ (line.slots.get 2).feeder.run = .stopped) := by
  refine ⟨?_, by and_intros <;> decide⟩
  intro s h; simp only [List.mem_cons, List.not_mem_nil, or_false] at h
  rcases h with rfl | rfl <;> refine ⟨?_, by unfold FeedLaw; decide, by decide, by decide, by decide, by decide, by decide⟩ <;> intro i <;>
    fin_cases i <;> simp +decide [MotionCoherent] <;> exact True.intro

theorem witness_EntriesAndRecallsKeepTheirOrder : (∀ x ∈ fullQueue.take 1, x.priority = true) ∧ (∀ x ∈ fullQueue.drop 1, x.priority = false)
    ∧ stack.place stack.top = some ⟨240, .port .stnA⟩ ∧ (stack.place (stack.top + 1)).isSome = true
    ∧ RecallStack.empty.place (RecallStack.empty.top + 1) = none := by and_intros <;> decide

def threeQueued : State := moving.modSlot 3 (fun x => { x with crusher := { x.crusher with queue := fullQueue.drop 1, stack := stack } })

/-- Three entries queued, so that the fourth place is taken and QUEUE_NEAR warns; gaps at and beyond the envelope and 4095; steps at ±500
and beyond. -/
theorem witness_BusySlotQueuesTheMove : Unbarred threeQueued 3 ∧ (threeQueued.slots.get 3).crusher.motion ≠ .idle
    ∧ (∀ b, (threeQueued.slots.get 3).crusher.motion ≠ .blocked b) ∧ (threeQueued.slots.get 3).crusher.queue.length + 1 ≤ 4
    ∧ (OnCrusher threeQueued .setGap (ask 3 [0, 100]) 3 ∧ coneParams.envMin ≤ wordAt [0, 100] 0 ∧ wordAt [0, 100] 0 ≤ coneParams.envMax)
    ∧ (OnCrusher threeQueued .setGap (ask 3 [0x10, 0]) 3 ∧ 4095 < wordAt [0x10, 0] 0)
    ∧ (OnCrusher threeQueued .setGap (ask 3 [0x0F, 0xFF]) 3 ∧ coneParams.envMax < wordAt [0x0F, 0xFF] 0 ∧ wordAt [0x0F, 0xFF] 0 ≤ 4095)
    ∧ wordAt [0, 99] 0 < coneParams.envMin ∧ (threeQueued.slots.get 3).mask.mem .envelope = true
    ∧ ((unmasked threeQueued 3).slots.get 3).mask.mem .envelope = false
    ∧ (OnCrusher threeQueued .stepGap (ask 3 [0xFE, 0x0C]) 3 ∧ -500 ≤ signedAt [0xFE, 0x0C] 0 ∧ signedAt [0x01, 0xF4] 0 ≤ 500)
    ∧ signedAt [0xFE, 0x0B] 0 < -500 ∧ 500 < signedAt [0x01, 0xF5] 0
    ∧ (OnCrusher threeQueued .recallGap (ask 3 []) 3 ∧ stack.place stack.top = some ⟨240, .port .stnA⟩
      ∧ coneParams.envMin ≤ 240 ∧ (240 : Nat) ≤ coneParams.envMax)
    ∧ RecallStack.empty.place RecallStack.empty.top = none := by
  and_intros <;> first | decide | (intro b; cases b <;> decide)

theorem witness_FullQueueMakesRoomForPriority : OnCrusher full .setGap ⟨.plant, 0x03, 15, 3, [0, 250]⟩ 3 ∧ Unbarred full 3
    ∧ (full.slots.get 3).crusher.motion ≠ .idle ∧ (∀ b, (full.slots.get 3).crusher.motion ≠ .blocked b)
    ∧ (full.slots.get 3).crusher.queue.length = 4 ∧ coneParams.envMin ≤ 250 ∧ (250 : Nat) ≤ coneParams.envMax
    ∧ (⟨.plant, 0x03, 15, 3, [0, 250]⟩ : Request).priority = true ∧ (ask 3 [0, 250]).priority = false
    ∧ (full.slots.get 3).crusher.queue = fullQueue.take 3 ++ entry .plant 14 .set 260 (some 260) :: []
    ∧ (entry .plant 14 .set 260 (some 260)).priority = false ∧ full.change = none
    ∧ (OnCrusher full .stepGap ⟨.plant, 0x03, 15, 3, [0xFE, 0x0C]⟩ 3 ∧ (-500 : Int) ≤ signedAt [0xFE, 0x0C] 0
      ∧ signedAt [0x01, 0xF4] 0 ≤ 500)
    ∧ (let s := full.modSlot 3 (fun x => { x with crusher := { x.crusher with stack := stack } })
      OnCrusher s .recallGap ⟨.plant, 0x03, 15, 3, []⟩ 3 ∧ stack.place stack.top = some ⟨240, .port .stnA⟩)
    ∧ (∀ e ∈ fullQueue.map (fun e => { e with priority := true }), e.priority = true) ∧ (∀ e ∈ fullQueue.drop 4, e.priority = true) := by
  and_intros <;> first | decide | (intro b; cases b <;> decide)

/-- The cone at 10770 drives; at 10970 it has arrived. -/
def arrived : State := line.modSlot 3 (fun x => { x with position := ⟨true, 0, some 10970, some 0⟩ })
def shallow (s : State) : State := s.modSlot 1 (fun x => { x with level := ⟨true, 51, some 0⟩ })

theorem witness_IdleCrushersStartTheMove : (OnCrusher line .setGap (ask 3 [0, 220]) 3 ∧ Unbarred line 3 ∧ (line.slots.get 3).kind = .cone
      ∧ (line.slots.get 3).crusher.motion = .idle ∧ (line.slots.get 3).crusher.queue = [] ∧ (line.slots.get 3).crusher.wearBlock = false
      ∧ (ask 3 [0, 220]).staged = false ∧ coneParams.envMin ≤ wordAt [0, 220] 0 ∧ wordAt [0, 220] 0 ≤ coneParams.envMax
      ∧ targetFor coneParams 12000 14 false 220 = ⟨some 10970, false⟩ ∧ (line.slots.get 3).position.valid = true
      ∧ (line.slots.get 3).position.last = some 10770)
    ∧ toward 10770 10970 4 = .drive .closing ∧ toward 10966 10970 4 = .arrived ∧ toward 10974 10970 4 = .arrived
    ∧ (arrived.slots.get 3).position.last = some 10970
    ∧ (OnCrusher (shallow line) .setGap (ask 1 [0, 220]) 1 ∧ Unbarred (shallow line) 1 ∧ ((shallow line).slots.get 1).kind = .jaw
      ∧ ((shallow line).slots.get 1).crusher.motion = .idle ∧ ((shallow line).slots.get 1).crusher.queue = []
      ∧ ((shallow line).slots.get 1).crusher.wearBlock = false
      ∧ ((shallow line).slots.get 1).cavityEmpty = false ∧ FeedLaw (shallow line)) := by
  and_intros <;> first | decide | (unfold FeedLaw; decide)

theorem witness_IdleCrushersStartTheMove_drained : draining.phase = .running ∧ (draining.slots.get 1).crusher.motion = .draining
    ∧ (draining.slots.get 1).crusher.move = some move ∧ (draining.slots.get 1).position.valid = true
    ∧ (draining.slots.get 1).position.last = some 5000 ∧ toward 5000 10970 4 = .drive .closing
    ∧ (draining.slots.get 1).crusher.fixedDrain = some 30000 ∧ (draining.slots.get 1).kind = .jaw ∧ (draining.slots.get 1).cp.levelIn = true
    ∧ 575 ≤ (575 : BitVec 12).toNat ∧ (575 : BitVec 12).toNat ≤ 3356 ∧ scaled 1000 575 ≤ (draining.slots.get 1).cp.cavEmpty
    ∧ scaled 1000 788 = 50 := by and_intros <;> decide

/-- A slot at rest, BLOCKED or MOVING; a good answer and one of each fault; counts 2 and less; a slot that is no crusher, a part not up. -/
theorem witness_PositionSamplesSteerTheMove :
    let lost := moving.modSlot 3 (fun x => { x with position := { x.position with bad := 2 } })
    line.phase = .running ∧ (line.slots.get 3).kind.isCrusher = true ∧ (line.slots.get 3).crusher.motion = .idle
      ∧ ((coneMoves (.blocked .wearLimit)).slots.get 3).crusher.motion = .blocked .wearLimit
      ∧ (good 10973).good = true ∧ bad.good = false ∧ (⟨true, 1, false, false⟩ : PositionAnswer).good = false
      ∧ (⟨true, 0, false, true⟩ : PositionAnswer).good = false ∧ (line.slots.get 2).kind.isCrusher = false
      ∧ (moving.phase = .running ∧ (moving.slots.get 3).kind.isCrusher = true ∧ (moving.slots.get 3).crusher.motion = .moving
        ∧ (moving.slots.get 3).crusher.move = some move)
      ∧ toward ((good 10965).position false) 10970 4 = .drive .closing ∧ toward ((good 10966).position false) 10970 4 = .arrived
      ∧ ((lost.slots.get 3).position.valid = true ∧ (lost.slots.get 3).position.bad = 2 ∧ (lost.slots.get 3).mask.mem .positionInvalid = true)
      ∧ (Quiet ((unmasked lost 3).slots.get 3) ∧ ((unmasked lost 3).slots.get 3).mask.mem .positionInvalid = false) ∧ lost.change = none := by
  intro lost; subst lost; and_intros <;> decide

theorem witness_SuspendKeepsTheMove : Taken moving .suspend (ask 3 []) ∧ slotOfByte 3 = some 3 ∧ slotOfByte 0xFF = none
    ∧ (line.slots.get 2).kind.isCrusher = false ∧ (moving.slots.get 3).holder ≠ some .stnB
    ∧ Taken moving .suspend (from_ .stnB 3 []) ∧ isLocal.localStation 3 = some .stnB ∧ line.localStation 3 = none
    ∧ OnCrusher moving .suspend (ask 3 []) 3 ∧ (moving.slots.get 3).crusher.motion = .moving
    ∧ (draining.slots.get 1).crusher.motion = .draining ∧ (settling.slots.get 3).crusher.motion = .settling
    ∧ OnCrusher suspended .suspend (ask 3 []) 3 ∧ (suspended.slots.get 3).crusher.motion = .suspended
    ∧ (line.slots.get 3).crusher.motion = .idle := by and_intros <;> decide

theorem witness_ResumeContinuesTheMove : OnCrusher line .resume (ask 3 []) 3 ∧ (line.slots.get 3).crusher.motion ≠ .suspended
    ∧ OnCrusher suspended .resume (ask 3 []) 3 ∧ (suspended.slots.get 3).crusher.motion = .suspended
    ∧ (suspended.slots.get 3).crusher.move = some { move with causes := ⟨true, false, false, false⟩, remaining := 80000 }
    ∧ (suspended.slots.get 3).position.valid = true ∧ (suspended.slots.get 3).position.last = some 10770
    ∧ toward 10770 move.target 4 = .drive .closing ∧ move.returnTo = .moving
    ∧ (handedOver.slots.get 3).crusher.move.map (·.causes) = some ⟨true, false, true, true⟩
    ∧ State.lineStop { handedOver with lineStop := ⟨true, true, none⟩ } = ⟨true, true, none⟩ := by and_intros <;> decide

/-- A move that stands within DB; one whose position is invalid, with POSITION_INVALID masked and unmasked; a jaw's that was draining. -/
theorem witness_ResumeContinuesTheMove_returns :
    let near := suspended.modSlot 3 (fun x => { x with position := ⟨true, 0, some 10974, some 0⟩ })
    let blind := suspended.modSlot 3 (fun x => { x with position := ⟨false, 3, some 10770, some 0⟩ })
    let jawWaits := (shallow line).modSlot 1 (fun x => { x with crusher := { x.crusher with
      motion := .suspended, move := some { move with returnTo := .draining, causes := ⟨true, false, false, false⟩ }, suspension := some 600000 } })
    (OnCrusher near .resume (ask 3 []) 3 ∧ (near.slots.get 3).position.last = some 10974 ∧ toward 10974 move.target 4 = .arrived)
      ∧ (OnCrusher blind .resume (ask 3 []) 3 ∧ (blind.slots.get 3).position.valid = false
        ∧ (blind.slots.get 3).mask.mem .positionInvalid = true)
      ∧ (OnCrusher (unmasked blind 3) .resume (ask 3 []) 3 ∧ ((unmasked blind 3).slots.get 3).mask.mem .positionInvalid = false
        ∧ Quiet ((unmasked blind 3).slots.get 3) ∧ (blind.ports.get .plant).tx.length + 2 ≤ 64 ∧ blind.change = none)
      ∧ (OnCrusher jawWaits .resume (ask 1 []) 1 ∧ (jawWaits.slots.get 1).crusher.motion = .suspended
        ∧ (jawWaits.slots.get 1).crusher.move = some { move with returnTo := .draining, causes := ⟨true, false, false, false⟩ }
        ∧ (jawWaits.slots.get 1).cavityEmpty = false ∧ FeedLaw jawWaits) := by
  intro near blind jawWaits; subst near blind jawWaits; and_intros <;> first | decide | (unfold FeedLaw; decide)

def waiting : State :=
  moving.modSlot 3 (fun x => { x with crusher := { x.crusher with queue := [{ entry .plant 9 .set 240 (some 240) with staged := true }] } })

theorem witness_GoClearsStagedMarks : Taken waiting .go (ask 0xFF [0, 0x08]) ∧ (ask 0xFF [0, 0x08]).slot = 0xFF ∧ 1 < (2 : Byte).toNat
    ∧ ((line.slots.get 2).kind.isCrusher = false ∧ (2 : SlotId) ∈ slotIds.filter (fun i => (0x04 : Byte).getLsbD i.val))
    ∧ (∀ i ∈ slotIds.filter (fun i => (0x08 : Byte).getLsbD i.val), (waiting.slots.get i).kind.isCrusher = true
      ∧ (waiting.slots.get i).holder = some .plant ∧ (waiting.slots.get i).crusher.motion ≠ .idle)
    ∧ (let l := slotIds.filter (fun i => (0x0A : Byte).getLsbD i.val)
      (∀ j ∈ l, ((ofStationB line).slots.get j).kind.isCrusher = true) ∧ FirstNotHeld (ofStationB line) (ask 0xFF [0, 0x0A]) l 3)
    ∧ (∃ e ∈ (waiting.slots.get 3).crusher.queue, (e.origin == .port .plant && e.changeId == none) = true ∧ e.staged = true)
    ∧ (∀ e ∈ (moving.slots.get 3).crusher.queue, e.staged = false)
    ∧ (∀ c, line.change = some c → c.id ≠ (7 : Byte).toNat) ∧ lastItem.change.map (fun c => (c.id, c.origin)) = some (7, .plant) := by
  and_intros <;> decide

/-- AUTO_TRIM on, and W one below the trigger. -/
def trimOn (s : State) : State := s.modSlot 3 (fun x => { x with
  cp := { x.cp with autoTrim := true }, crusher := { x.crusher with wAtMove := 10 } })

theorem witness_FlushClearsPendingWork :
    (∀ s ∈ [full, suspended, relieved, approaching, coneMoves (.blocked .wearLimit), line], OnCrusher s .flush (ask 3 []) 3 ∧ s.change = none)
      ∧ (full.slots.get 3).crusher.motion = .moving ∧ (full.slots.get 3).crusher.move.isSome = true
      ∧ (full.slots.get 3).crusher.wearBlock = false ∧ NoTrim (full.slots.get 3) ∧ NoTrim ((trimOn full).slots.get 3)
      ∧ OnCrusher draining .flush (ask 1 []) 1 ∧ (draining.slots.get 1).kind = .jaw
      ∧ (relieved.slots.get 3).crusher.motion = .relief ∧ (relieved.slots.get 3).crusher.episode = some { episode with target := none } := by
  and_intros <;> decide

theorem witness_SettlingEndsTheMove : settling.phase = .running ∧ (settling.slots.get 3).crusher.motion = .settling
    ∧ (settling.slots.get 3).crusher.settle = some 2000 ∧ (settling.slots.get 3).crusher.move = some move
    ∧ (settling.slots.get 3).position.last = some 10770 ∧ (settling.slots.get 3).position.valid = true
    ∧ toward 10770 move.target 4 = .drive .closing ∧ toward 10966 move.target 4 = .arrived ∧ Quiet (settling.slots.get 3)
    ∧ settling.enabled .plant = true ∧ (settling.ports.get .plant).tx.length < 64 ∧ (settling.ports.get .plant).subs = NoticeSet.every
    ∧ (settling.ports.get .plant).notices.length ≤ 13 ∧ settling.change = none ∧ stack.depth = 6 := by and_intros <;> decide

theorem witness_ExpiriesFailTheMove : (moving.phase = .running ∧ (moving.slots.get 3).crusher.move = some move ∧ Quiet (moving.slots.get 3))
    ∧ ((moving.slots.get 3).crusher.motion = .moving ∧ (moving.slots.get 3).crusher.travel = some 120000)
    ∧ ((suspended.slots.get 3).crusher.motion = .suspended ∧ (suspended.slots.get 3).crusher.suspension = some 600000
      ∧ Quiet (suspended.slots.get 3))
    ∧ ((draining.slots.get 1).crusher.motion = .draining ∧ (draining.slots.get 1).crusher.drainLimit = some 90000
      ∧ (draining.slots.get 1).crusher.move = some move ∧ Quiet (draining.slots.get 1))
    ∧ (moving.enabled .plant = true ∧ (moving.ports.get .plant).tx.length < 64 ∧ (moving.ports.get .plant).subs = NoticeSet.every
      ∧ (moving.ports.get .plant).notices.length ≤ 13 ∧ moving.change = none) := by and_intros <;> decide

/-- A relief start in a move with the history full, within an episode, in a calibration and in BLOCKED. -/
theorem witness_ReliefStartsAnEpisode :
    ∀ s ∈ [dueIn (.relief 3) true false (moving.modSlot 3 (fun x => { x with crusher := { x.crusher with history := [1, 2, 3, 4, 5, 6, 7, 8] } })),
        dueIn (.relief 3) true false recovering, dueIn (.relief 3) true false approaching,
        dueIn (.relief 3) true false (coneIs (fun c => { c with restart := some 10000 })),
        dueIn (.relief 3) true false (coneMoves (.blocked .wearLimit))],
      MotionLaw s ∧ FeedLaw s ∧ s.phase = .running ∧ (s.slots.get 3).kind = .cone ∧ (s.slots.get 3).relief = ⟨true, false, some 50⟩
        ∧ (s.slots.get 3).lockout.state = false ∧ (s.slots.get 3).crusher.history.length ≤ 8 := by
  intro s h; simp only [List.mem_cons, List.not_mem_nil, or_false] at h
  rcases h with rfl | rfl | rfl | rfl | rfl <;>
    refine ⟨?_, by unfold FeedLaw; decide, by decide, by decide, by decide, by decide, by decide⟩ <;> intro i <;>
    fin_cases i <;> simp +decide [MotionCoherent] <;> exact True.intro

/-- A relief start under an active lockout, in IDLE. -/
theorem witness_ReliefStartsAnEpisode_lockout : ∃ s, MotionLaw s ∧ FeedLaw s ∧ s.phase = .running ∧ (s.slots.get 3).kind = .cone
    ∧ (s.slots.get 3).relief = ⟨true, false, some 50⟩ ∧ (s.slots.get 3).lockout.state = true ∧ (s.slots.get 3).crusher.motion = .idle
    ∧ (s.slots.get 3).crusher.history.length ≤ 8 := by
  refine ⟨dueIn (.relief 3) true false shut, ?_, by unfold FeedLaw; decide, by decide, by decide, by decide, by decide, by decide, by decide⟩
  intro i; fin_cases i <;> simp +decide [MotionCoherent] <;> exact True.intro

/-- One entry inside the window of 600 s, and three. -/
theorem witness_ReliefEndsInRecoveryOrBlock :
    let ends := fun (h : List Nat) => { dueIn (.relief 3) false true (relieved.modSlot 3 (fun x => { x with
      crusher := { x.crusher with history := h } })) with clock := 4612000 }
    let kept := fun (h : List Nat) => ((ends h).slots.get 3).crusher.history.filter (fun t => max (ends h).clock 50 / 1000 ≤ t + 600)
    (ends [4012]).phase = .running ∧ ((ends [4012]).slots.get 3).kind = .cone ∧ ((ends [4012]).slots.get 3).relief = ⟨false, true, some 50⟩
      ∧ ((ends [4012]).slots.get 3).crusher.motion = .relief ∧ (ends [4012]).change = none
      ∧ ((ends [4012]).slots.get 3).crusher.episode = some { episode with target := none } ∧ episode.abandoned = false
      ∧ (kept [4011, 4012]).length = 1 ∧ coneParams.reliefN ≤ (kept [4012, 4450, 4610]).length
      ∧ ((ends [4012]).slots.get 3).position.valid = true ∧ ((ends [4012]).slots.get 3).position.last = some 10770
      ∧ toward 10770 10970 4 = .drive .closing := by
  intro ends kept; subst kept ends; and_intros <;> decide

/-- A relief end of an abandoned episode, with the lockout and without it, in both kinds of BLOCKED and in RECOVERING. -/
theorem witness_ReliefEndsInRecoveryOrBlock_others :
    (∀ s ∈ [dueIn (.relief 3) false true abandoned, dueIn (.relief 3) false true (locked abandoned 3),
          dueIn (.relief 3) false true (coneMoves (.blocked .trampRepeat)), dueIn (.relief 3) false true (coneMoves (.blocked .wearLimit)),
          dueIn (.relief 3) false true recovering],
        s.phase = .running ∧ (s.slots.get 3).kind = .cone ∧ (s.slots.get 3).relief = ⟨false, true, some 50⟩ ∧ Quiet (s.slots.get 3))
      ∧ ((abandoned.slots.get 3).crusher.motion = .relief
        ∧ (abandoned.slots.get 3).crusher.episode = some { episode with target := none, returnTo := .idle, abandoned := true }
        ∧ (abandoned.slots.get 3).crusher.wearBlock = false ∧ ((locked abandoned 3).slots.get 3).lockout.state = true)
      ∧ ((coneMoves (.blocked .trampRepeat)).slots.get 3).crusher.motion = .blocked .trampRepeat
      ∧ ((coneMoves (.blocked .wearLimit)).slots.get 3).crusher.motion ≠ .relief
      ∧ (recovering.slots.get 3).crusher.motion ≠ .blocked .recoveryFail := by
  refine ⟨?_, by and_intros <;> decide⟩
  intro s h; simp only [List.mem_cons, List.not_mem_nil, or_false] at h
  rcases h with rfl | rfl | rfl | rfl | rfl <;> and_intros <;> decide

/-- A recovery that returns to SUSPENDED, with a cause left and with none, at a target to drive to and one that has been reached. -/
theorem witness_RecoveriesAndBlocksEnd_suspended :
    let back := fun (causes : Causes) (target : Nat) => recovering.modSlot 3 (fun x => { x with crusher := { x.crusher with
      episode := some { episode with returnTo := .suspended, target := some 10770 }
      move := some { move with causes := causes, target := target } } })
    let c := fun (causes : Causes) (target : Nat) => ((back causes target).slots.get 3).crusher
    (c .zero 10970).motion = .recovering ∧ (c .zero 10970).settle = some 2000
      ∧ (c .zero 10970).episode = some { episode with returnTo := .suspended, target := some 10770 }
      ∧ ((back .zero 10970).slots.get 3).position.last = some 10770 ∧ toward 10770 10770 4 = .arrived
      ∧ Quiet ((back .zero 10970).slots.get 3) ∧ ((back .zero 10970).slots.get 3).position.valid = true
      ∧ (c .zero 10970).move.map (·.causes) = some .zero ∧ toward 10770 10970 4 = .drive .closing
      ∧ (c .zero 10772).move.map (·.target) = some 10772 ∧ toward 10770 10772 4 = .arrived
      ∧ (c ⟨true, false, false, false⟩ 10970).move.map (·.causes) = some ⟨true, false, false, false⟩
      ∧ (⟨true, false, false, false⟩ : Causes) ≠ .zero := by
  intro back c; subst c back; and_intros <;> decide

theorem witness_RecoveriesAndBlocksEnd : (recovering.phase = .running ∧ (recovering.slots.get 3).crusher.motion = .recovering
      ∧ (recovering.slots.get 3).crusher.settle = some 2000 ∧ (recovering.slots.get 3).crusher.episode = some episode
      ∧ episode.target = some 10970 ∧ episode.returnTo = .moving ∧ toward 10974 10970 4 = .arrived ∧ Quiet (recovering.slots.get 3)
      ∧ (recovering.slots.get 3).crusher.move = some move ∧ move.causes = .zero ∧ move.entry.kind = .set ∧ recovering.change = none
      ∧ (recovering.slots.get 3).crusher.travel = some 120000)
    ∧ ((coneIs (fun c => { c with restart := some 10000 })).slots.get 3).crusher.restart = some 10000
    ∧ (∀ b ∈ [BlockCause.trampRepeat, .recoveryFail, .wearLimit, .paramFault], OnCrusher (coneMoves (.blocked b)) .clearBlock (ask 3 []) 3
      ∧ Quiet ((coneMoves (.blocked b)).slots.get 3) ∧ ((coneMoves (.blocked b)).slots.get 3).relief.state = false
      ∧ ((coneMoves (.blocked b)).slots.get 3).crusher.motion = .blocked b)
    ∧ ((relieved.slots.get 3).relief.state = true ∧ (relieved.slots.get 3).kind = .cone)
    ∧ (OnCrusher line .clearBlock (ask 3 []) 3 ∧ ∀ b, (line.slots.get 3).crusher.motion ≠ .blocked b) := by
  and_intros <;> first | decide | (intro b; cases b <;> decide)

theorem witness_CalibrationStartsAndContacts :
    let due := { approaching.modSlot 3 (fun x => { x with position := ⟨true, 0, some 12081, some 74980⟩ }) with clock := 75000 }
    OnCrusher line .calibrate (ask 3 []) 3 ∧ Unbarred line 3 ∧ (line.slots.get 3).crusher.motion = .idle ∧ (line.slots.get 3).crusher.queue = []
      ∧ (line.slots.get 3).relief.state = false ∧ (line.slots.get 3).cavityEmpty = false ∧ FeedLaw line
      ∧ ((coneMoves (.blocked .wearLimit)).slots.get 3).crusher.motion = .blocked .wearLimit
      ∧ ((coneMoves (.blocked .trampRepeat)).slots.get 3).crusher.motion = .blocked .trampRepeat
      ∧ (moving.slots.get 3).crusher.motion = .moving ∧ (full.slots.get 3).crusher.queue ≠ []
      ∧ (due.phase = .running ∧ (due.slots.get 3).kind.isCrusher = true ∧ (good 12081).good = true
        ∧ (due.slots.get 3).crusher.motion = .calibrating ∧ (due.slots.get 3).crusher.cal = some run ∧ run.stage = .approach
        ∧ 12081 < (due.slots.get 3).cp.pHi ∧ run.contactAt (due.reachSample (some 74980) 20).clock 12081 = true)
      ∧ gapOf 819 50 ≤ coneParams.calTol ∧ coneParams.calTol < gapOf 819 60 := by
  intro due; subst due; and_intros <;> first | decide | (unfold FeedLaw; decide)

/-- The ends of a run: the drain limit, the fixed drain at a valid and an invalid position, the travel expiry, the settle expiry of REOPEN
and of BACKOFF, the third bad sample, and the close limit P_HI. -/
theorem witness_CalibrationStartsAndContacts_ends :
    let at_ := fun (r : CalRun) (f : Crusher → Crusher) =>
      approaching.modSlot 3 (fun x => { x with crusher := f { x.crusher with cal := some r } })
    let drains := at_ { run with stage := .drain } (fun c => { c with travel := none, drainLimit := some 90000, fixedDrain := some 30000 })
    let reopens := at_ { run with stage := .reopen, pStart := some 10770 } (fun c => { c with settle := some 80000 })
    let backs := at_ { run with stage := .backoff, contact := some .accepted, target := some 10770 } (fun c => { c with settle := some 80000 })
    let blind := fun (s : State) (n : Nat) => s.modSlot 3 (fun x => { x with position := ⟨n == 2, n, some 10770, some 0⟩ })
    (∀ s ∈ [approaching, drains, reopens, backs], s.phase = .running ∧ (s.slots.get 3).kind.isCrusher = true
        ∧ (s.slots.get 3).crusher.motion = .calibrating ∧ (s.slots.get 3).crusher.queue = [] ∧ NoTrim (s.slots.get 3) ∧ NoTrim ((trimOn s).slots.get 3)
        ∧ (s.slots.get 3).position.valid = true ∧ (s.slots.get 3).position.last = some 10770
        ∧ s.enabled .plant = true ∧ (s.ports.get .plant).tx.length < 64 ∧ (s.ports.get .plant).subs = NoticeSet.every
        ∧ (s.ports.get .plant).notices.length ≤ 13)
      ∧ ((drains.slots.get 3).crusher.cal = some { run with stage := .drain } ∧ (drains.slots.get 3).crusher.drainLimit = some 90000
        ∧ (drains.slots.get 3).crusher.fixedDrain = some 30000 ∧ ((blind drains 3).slots.get 3).position.valid = false)
      ∧ ((approaching.slots.get 3).crusher.travel = some 151000 ∧ (reopens.slots.get 3).crusher.travel = some 151000)
      ∧ ((reopens.slots.get 3).crusher.settle = some 80000 ∧ (backs.slots.get 3).crusher.settle = some 80000
        ∧ toward 10770 10770 4 = .arrived)
      ∧ (((blind approaching 2).slots.get 3).position = ⟨true, 2, some 10770, some 0⟩ ∧ bad.good = false)
      ∧ ((good 12300).good = true ∧ (approaching.slots.get 3).cp.pHi ≤ (good 16383).position (approaching.slots.get 3).cp.inverted
        ∧ toward 16383 10770 4 = .drive .opening ∧ toward 16383 16380 4 = .arrived) := by
  intro at_ drains reopens backs blind; subst drains reopens backs blind at_
  refine ⟨?_, by and_intros <;> decide⟩
  intro s h; simp only [List.mem_cons, List.not_mem_nil, or_false] at h
  rcases h with rfl | rfl | rfl | rfl <;> and_intros <;> decide

def worn (w acc : Nat) : State := line.modSlot 3 (fun x => { x with
  cp := { x.cp with wearRate := 20000 }, lastEdge := some 0, crusher := { x.crusher with w := w, acc := acc } })

/-- An edge 99 ms and one 100 ms after the last; a sum of 65535 and of 65536; one below WEAR_MAX, and at it. -/
theorem witness_TonnageRaisesWear : line.phase = .running ∧ (line.slots.get 3).kind.isCrusher = true
    ∧ ((worn 14 0).slots.get 3).lastEdge = some 0 ∧ 99 < 0 + 100 ∧ State.clock { worn 14 0 with clock := 100 } = 0 + 100
    ∧ 45535 + 20000 < 65536 ∧ 65536 ≤ ((worn 14 45536).slots.get 3).crusher.acc + ((worn 14 45536).slots.get 3).cp.wearRate
    ∧ ((worn 298 45536).slots.get 3).crusher.w + 1 < coneParams.wearMax ∧ coneParams.wearMax ≤ ((worn 299 45536).slots.get 3).crusher.w + 1
    ∧ ((worn 300 45536).slots.get 3).crusher.w ≤ coneParams.wearMax
    ∧ (line.slots.get 3).mask.mem .wearLimit = true ∧ ((unmasked line 3).slots.get 3).mask.mem .wearLimit = false := by and_intros <;> decide

/-- An increment that brings W by TRIM_STEP above W_at_move on an idle cone, below WEAR_MAX and at it, masked; with the target far off,
within DB and out of reach; and one that falls one short. -/
theorem witness_TonnageRaisesWear_trims :
    let due := fun (w atMove : Nat) => (worn w 45536).modSlot 3 (fun x => { x with
      cp := { x.cp with autoTrim := true }, crusher := { x.crusher with wAtMove := atMove } })
    (∀ s ∈ [due 14 10, due 299 295], (s.slots.get 3).kind = .cone ∧ (s.slots.get 3).cp.autoTrim = true
        ∧ (s.slots.get 3).crusher.wAtMove + (s.slots.get 3).cp.trimStep ≤ (s.slots.get 3).crusher.w + 1
        ∧ (s.slots.get 3).crusher.motion = .idle ∧ (s.slots.get 3).crusher.queue = [] ∧ Unbarred s 3
        ∧ (s.slots.get 3).crusher.wearBlock = false ∧ (s.slots.get 3).crusher.w < (s.slots.get 3).cp.wearMax
        ∧ (s.slots.get 3).mask.mem .wearLimit = true)
      ∧ ¬ 11 + ((due 14 11).slots.get 3).cp.trimStep ≤ ((due 14 11).slots.get 3).crusher.w + 1
      ∧ targetFor coneParams 12000 15 false 220 = ⟨some 10975, false⟩ ∧ toward 10770 10975 4 = .drive .closing
      ∧ toward 10979 10975 4 = .arrived ∧ (targetFor coneParams 12000 15 false 74).pos = none := by
  intro due; subst due
  refine ⟨?_, by and_intros <;> decide⟩
  intro s h; simp only [List.mem_cons, List.not_mem_nil, or_false] at h
  rcases h with rfl | rfl <;> and_intros <;> decide

/-- The release of the lockout of a cone whose W has reached the trigger. -/
theorem witness_TonnageRaisesWear_start_check :
    let s := dueIn (.lockout 3) false true (coneIs (fun c => { c with wAtMove := 9 }))
    let s := s.modSlot 3 (fun x => { x with cp := { x.cp with autoTrim := true } })
    s.phase = .running ∧ (s.slots.get 3).kind = .cone ∧ (s.slots.get 3).lockout = ⟨false, true, some 50⟩
      ∧ (s.slots.get 3).crusher.motion = .idle ∧ (s.slots.get 3).crusher.queue = [] ∧ (s.slots.get 3).crusher.wearBlock = false
      ∧ s.lineStop.state = false ∧ s.held 3 = false ∧ (s.slots.get 3).cp.autoTrim = true
      ∧ (s.slots.get 3).crusher.wAtMove + (s.slots.get 3).cp.trimStep ≤ (s.slots.get 3).crusher.w := by
  intro s s'; subst s s'; and_intros <;> decide

theorem witness_SetRateSetsTheBaseRate : OnFeeder line .setRate (ask 2 [0x03, 0xE8, 1, 0x03, 0xE8]) 2 ∧ wordAt [0x03, 0xE8, 1, 0x03, 0xE8] 0 ≤ 1000
    ∧ wordAt [0x03, 0xE8, 1, 0x03, 0xE8] 3 ≤ 1000 ∧ RegMode.ofByte 1 = some .level ∧ RegMode.ofByte 2 = none ∧ 1000 < wordAt [0x03, 0xE9] 0
    ∧ ((locked line 2).slots.get 2).lockout.state = true ∧ State.held { line with hold := some ⟨2, true, false⟩ } 2 = true
    ∧ (line.slots.get 2).lockout.state = false ∧ line.held 2 = false
    ∧ ((feederIs (fun f => { f with paramFault := true })).slots.get 2).feeder.paramFault = true ∧ (line.slots.get 2).feeder.paramFault = false
    ∧ (line.slots.get 2).fp.rMin ≤ wordAt [0, 150] 0 ∧ wordAt [0x03, 0x84] 0 ≤ (line.slots.get 2).fp.rMax
    ∧ wordAt [0, 149] 0 < (line.slots.get 2).fp.rMin ∧ (line.slots.get 2).fp.rMax < wordAt [0x03, 0x85] 0
    ∧ (line.slots.get 2).mask.mem .envelope = true ∧ ((unmasked line 2).slots.get 2).mask.mem .envelope = false := by and_intros <;> decide

theorem witness_StartFeedRunsTheFeeder : Taken line .startFeed (ask 2 []) ∧ slotOfByte 2 = some 2 ∧ (line.slots.get 2).kind = .feeder
    ∧ (line.slots.get 3).kind ≠ .feeder ∧ (line.slots.get 2).holder = some .plant ∧ (line.slots.get 2).holder ≠ some .stnB
    ∧ ((locked line 2).slots.get 2).lockout.state = true ∧ stopped.lineStop.state = true ∧ (stopped.slots.get 2).lockout.state = false
    ∧ ((feederIs (fun f => { f with paramFault := true })).slots.get 2).feeder.paramFault = true
    ∧ (line.slots.get 2).fp.served ≠ none ∧ ((feederIs (fun f => { f with run := .fault })).slots.get 2).feeder.run = .fault
    ∧ (running.slots.get 2).feeder.run = .running ∧ (line.slots.get 2).feeder.run = .stopped := by and_intros <;> decide

theorem witness_StopFeedStopsTheFeeder : Taken running .stopFeed (ask 2 []) ∧ slotOfByte 2 = some 2 ∧ (running.slots.get 2).kind = .feeder
    ∧ (line.slots.get 3).kind ≠ .feeder ∧ (running.slots.get 2).holder = some .plant ∧ (running.slots.get 2).holder ≠ some .stnB
    ∧ (running.slots.get 2).feeder.run ≠ .stopped ∧ (line.slots.get 2).feeder.run = .stopped := by and_intros <;> decide

theorem witness_StartLineStartsTheFeeders : Taken running .startLine (ask 0xFF []) ∧ Taken running .startLine (from_ .stnA 0xFF [])
    ∧ running.lineStop.state = false ∧ stopped.lineStop.state = true := by and_intros <;> decide

theorem witness_RunFeedbackIsConfirmed :
    let confirming := running.modSlot 2 (fun x => { x with feeder := { x.feeder with confirmTimer := some 3000 } })
    confirming.phase = .running ∧ (confirming.slots.get 2).kind = .feeder ∧ (confirming.slots.get 2).feeder.confirmTimer = some 3000
      ∧ (confirming.slots.get 2).running.state = false ∧ (confirming.slots.get 2).feeder.run = .running
      ∧ ((dueIn (.running 2) false true confirming).slots.get 2).running = ⟨false, true, some 50⟩
      ∧ (running.slots.get 2).feeder.confirmTimer = none ∧ (confirming.slots.get 2).feeder.confirmTimer ≠ none
      ∧ (line.slots.get 2).feeder.run ≠ .running := by
  intro s; subst s; and_intros <;> decide

theorem witness_RegulationComputesTheReference : running.phase = .running ∧ (running.slots.get 2).feeder.run = .running
    ∧ (running.slots.get 2).feeder.regTimer = some 500 ∧ (running.slots.get 2).fp.served = some 3
    ∧ (running.slots.get 2).feeder.inhibits.isEmpty = true ∧ (shut.slots.get 2).feeder.inhibits.isEmpty = false
    ∧ (running.slots.get 3).level.valid = true ∧ (running.slots.get 3).power.valid = true ∧ running.bin.state ≠ .unknown
    ∧ (running.slots.get 2).feeder.mode = .level ∧ (running.slots.get 2).feeder.seed = false
    ∧ ((running.modSlot 3 (fun x => { x with level := .unread })).slots.get 3).level.valid = false
    ∧ (running.slots.get 3).cp.powerIn = true ∧ ((running.modSlot 3 (fun x => { x with power := .unread })).slots.get 3).power.valid = false
    ∧ (running.slots.get 2).fp.binRel ≠ .neither ∧ State.bin { running with bin := { running.bin with state := .unknown } } ≠ running.bin
    ∧ (∀ k ∈ [Cond.levelInvalid, .powerInvalid, .binInvalid], (running.slots.get 2).mask.mem k = true
      ∧ ((unmasked running 2).slots.get 2).mask.mem k = false)
    ∧ running.enabled .plant = true ∧ (running.ports.get .plant).subs = NoticeSet.every
    ∧ (running.ports.get .plant).notices.length ≤ 12 := by and_intros <;> decide

theorem witness_BinFollowsItsLevel : line.phase = .running ∧ 575 ≤ (575 : BitVec 12).toNat ∧ (3356 : BitVec 12).toNat ≤ 3356
    ∧ (574 : BitVec 12).toNat < 575 ∧ 3356 < (3357 : BitVec 12).toNat ∧ line.bin.input.valid = true
    ∧ (let b := BinThresholds.default
      b.empty ≤ b.low ∧ b.low ≤ b.high ∧ b.high ≤ b.full ∧ b.empty < 51 ∧ 219 < b.low + b.hys ∧ b.low < 201 ∧ 799 < b.high
        ∧ b.high < 781 + b.hys ∧ 949 < b.full ∧ b.hys ≤ b.full ∧ 0 < b.hys ∧ BinState.low ≠ .unknown) := by and_intros <;> decide

theorem witness_SaveRecipeReplacesTheRecord :
    let r := ask 0xFF [7, 1, 1, 0x41, 0]
    Taken line .saveRecipe r ∧ r.slot = 0xFF ∧ (line.recipeOf r.payload).map (·.1) = some 7 ∧ line.isWriting (.recipe 7) = false
      ∧ State.isWriting { line with writing := some ⟨.recipe 7, .recipe none, 0⟩ } (.recipe 7) = true
      ∧ line.recipeOf [8, 2, 0, 0] = none ∧ line.recipeOf [7, 3, 1, 0x41, 0] = none ∧ line.recipeOf [7, 1, 0, 0] = none
      ∧ byteAt [7, 2, 0, 0] 1 = 2 ∧ byteAt r.payload 1 = 1 := by
  intro r; subst r; and_intros <;> decide

/-- An explicit body: two entries out of slot order, at the ends of their ranges; one slot named twice; no entry; and a gap for a feeder. -/
theorem witness_SaveRecipeReplacesTheRecord_explicit :
    let body := fun (n : Byte) (l : List Byte) => [(0 : Byte), 0, 1, 0x41, n] ++ l
    let gap : List Byte := [3, 0x0F, 0xFF, 0xFF, 0, 0]
    let feed : List Byte := [2, 0x03, 0xE8, 1, 0x03, 0xE8]
    slotOfByte (byteAt (body 2 (gap ++ feed)) 0) = some 0 ∧ byteAt (body 2 (gap ++ feed)) 1 = 0
      ∧ CodesEntry line (body 2 (gap ++ feed)) 5 ⟨3, .gap 4095⟩ ∧ CodesEntry line (body 2 (gap ++ feed)) 11 ⟨2, .feed 1000 .level 1000⟩
      ∧ line.recipeOf (body 2 (gap ++ feed)) = some (0, some ⟨[0x41], [⟨2, .feed 1000 .level 1000⟩, ⟨3, .gap 4095⟩]⟩)
      ∧ line.recipeOf (body 2 (gap ++ gap)) = none ∧ line.recipeOf (body 0 []) = none
      ∧ line.recipeOf (body 1 [2, 0, 100, 0xFF, 0, 0]) = none ∧ line.recipeOf (body 1 [3, 0x10, 0, 0xFF, 0, 0]) = none := by
  intro body gap feed; subst body gap feed; unfold CodesEntry; and_intros <;> decide

def withRecipe (r : Recipe) (s : State) : State := { s with recipes := s.recipes.set 3 (some r) }

/-- Cone A and cone B MOVING. -/
def bothMove : State := moving.modSlot 5 (fun x => { x with crusher := { x.crusher with motion := .moving, move := some move } })

theorem witness_ApplyRecipeCreatesAChange :
    let r := ask 0xFF [3, 0, 0, 60]
    let g := withRecipe ⟨[0x41], [⟨3, .gap 100⟩]⟩ moving
    Taken g .applyRecipe r ∧ r.slot = 0xFF ∧ slotOfByte 3 = some 3 ∧ ChangeMode.ofByte 0 = some .direct ∧ wordAt r.payload 2 = 60
      ∧ ChangeMode.ofByte 2 = none ∧ 3600 < wordAt [0x0E, 0x11] 0 ∧ wordAt [0, 59] 0 < 60
      ∧ stopped.lineStop.state = true ∧ lastItem.change ≠ none ∧ line.recipes.get 3 = none
      ∧ g.lineStop.state = false ∧ g.change = none ∧ g.recipes.get 3 = some ⟨[0x41], [⟨3, .gap 100⟩]⟩
      ∧ (g.slots.get 3).kind.isCrusher = true ∧ (g.slots.get 3).holder = some .plant ∧ Unbarred g 3
      ∧ (g.slots.get 3).crusher.motion ≠ .idle ∧ (∀ b, (g.slots.get 3).crusher.motion ≠ .blocked b)
      ∧ (g.slots.get 3).crusher.queue.length < 4 ∧ coneParams.envMin ≤ 100 ∧ (100 : Nat) ≤ coneParams.envMax := by
  intro r g; subst r g; and_intros <;> first | decide | (intro b; cases b <;> decide)

/-- Recipe 3 of section 8.7 applied STAGED; and one that leaves no item ACTIVE, with an item for each way a feed or gap item can end. -/
theorem witness_ApplyRecipeCreatesAChange_several :
    let ends := ((withRecipe ⟨[0x41], [⟨0, .feed 100 .fixed 500⟩, ⟨1, .gap 240⟩, ⟨2, .feed 950 .level 700⟩, ⟨3, .gap 4000⟩,
      ⟨4, .feed 580 .level 700⟩, ⟨5, .gap 260⟩, ⟨6, .gap 240⟩]⟩ (locked (unmasked (unmasked bothMove 3) 2) 1)).modSlot 5
        (fun x => { x with crusher := { x.crusher with queue := fullQueue } }))
    let seen := fun (s : State) (l : List RecipeEntry) => (l.map (s.createdItem .plant)).map (fun it =>
      let it := s.afterWaveTwo it
      (it.state, (s.afterWaveThree it).state, (s.afterWaveThree it).reason, (s.afterWaveThree it).applied))
    (∀ s ∈ [changing, ends], Taken s .applyRecipe (ask 0xFF [3, 1, 0, 60]) ∧ s.lineStop.state = false ∧ s.change = none)
      ∧ ChangeMode.ofByte 1 = some .staged
      ∧ (changing.recipes.get 3 = some road ∧ road.entries.Pairwise (fun a b => a.slot < b.slot)
        ∧ (∀ it ∈ road.entries.map (changing.createdItem .plant), it.isGap = true → it.state = .pending →
          (changing.slots.get it.slot).crusher.motion ≠ .idle ∨ ((changing.slots.get it.slot).crusher.queue = []
            ∧ (changing.slots.get it.slot).crusher.wearBlock = false))
        ∧ seen changing road.entries = [(.pending, .done, .noReason, some 700), (.done, .done, .noReason, some 520),
          (.active, .active, .noReason, some 240), (.skipped, .skipped, .authority, none), (.active, .active, .noReason, some 260)])
      ∧ ∃ l, (ends.recipes.get 3).map (·.entries) = some l ∧ l.Pairwise (fun a b => a.slot < b.slot)
        ∧ (∀ it ∈ l.map (ends.createdItem .plant), it.isGap = true → it.state = .pending →
          (ends.slots.get it.slot).crusher.motion ≠ .idle)
        ∧ seen ends l = [(.adjusted, .adjusted, .envelope, some 150), (.skipped, .skipped, .lockout, none),
          (.pending, .failed, .envelope, none), (.failed, .failed, .envelope, none), (.pending, .done, .noReason, some 580),
          (.failed, .failed, .queueFull, none), (.skipped, .skipped, .badSlot, none)] := by
  intro ends seen; subst ends seen
  refine ⟨?_, by decide, by and_intros <;> decide, _, rfl, by and_intros <;> decide⟩
  intro s h; simp only [List.mem_cons, List.not_mem_nil, or_false] at h
  rcases h with rfl | rfl <;> and_intros <;> decide

/-- The other skip rules, and LOCKOUT, HOLD_SPAN and BLOCKED at wave 3. -/
theorem witness_ApplyRecipeCreatesAChange_skips :
    let blocked := coneMoves (.blocked .wearLimit)
    let fault := feederIs (fun f => { f with paramFault := true })
    let item : Item := ⟨2, .feeder, .feed 580 .level 700, 3, .pending, .noReason, none⟩
    (held.skipRule .plant ⟨3, .gap 240⟩ = some .holdSpan ∧ blocked.skipRule .plant ⟨3, .gap 240⟩ = some .blocked
        ∧ fault.skipRule .plant ⟨2, .feed 580 .level 700⟩ = some .blocked ∧ isLocal.skipRule .stnA ⟨4, .feed 580 .level 700⟩ = some .localMode)
      ∧ [(locked line 2).ratedItem item, held.ratedItem item, fault.ratedItem item].map (·.reason) = [.lockout, .holdSpan, .blocked] := by
  and_intros <;> decide

/-- A DIRECT change for an idle cone, its target far off and within DB, for an idle jaw, and for a cone whose target is out of reach. -/
theorem witness_ApplyRecipeCreatesAChange_idle :
    let idle := fun (i : SlotId) => withRecipe ⟨[0x41], [⟨i, .gap 220⟩]⟩ line
    let flat := withRecipe ⟨[0x41], [⟨3, .gap 220⟩]⟩ (trimOn (coneIs (fun c => { c with w := 200, wAtMove := 200 })))
    (∀ i ∈ [(1 : SlotId), 3], (idle i).recipes.get 3 = some ⟨[0x41], [⟨i, .gap 220⟩]⟩ ∧ ((idle i).slots.get i).kind.isCrusher = true
        ∧ ((idle i).slots.get i).holder = some .plant ∧ Unbarred (idle i) i ∧ coneParams.envMin ≤ 220 ∧ (220 : Nat) ≤ coneParams.envMax
        ∧ ((idle i).slots.get i).crusher.motion = .idle ∧ ((idle i).slots.get i).crusher.queue = []
        ∧ ((idle i).slots.get i).crusher.wearBlock = false)
      ∧ (targetFor coneParams 12000 14 false 220 = ⟨some 10970, false⟩ ∧ (line.slots.get 3).position.valid = true
        ∧ toward 10770 10970 4 = .drive .closing ∧ toward 10966 10970 4 = .arrived ∧ (line.slots.get 1).cavityEmpty = false)
      ∧ (targetFor coneParams 12000 200 false 220).pos = none
      ∧ NoTrim ((withRecipe road (coneIs (fun c => { c with w := 200, wAtMove := 200 }))).slots.get 3)
      ∧ (flat.slots.get 3).crusher.w = 200 := by
  and_intros <;> decide

/-- A settle expiry within DB with cone A's item the last ACTIVE one, and a rate left for wave 3. -/
theorem witness_ApplyRecipeCreatesAChange_last :
    let items : List Item := [⟨2, .feeder, .feed 580 .level 700, 3, .pending, .noReason, none⟩,
      ⟨3, .cone, .gap 220, 2, .active, .noReason, some 220⟩, ⟨5, .cone, .gap 240, 2, .failed, .reach, some 240⟩]
    let s := { settling.modSlot 3 (fun x => { x with
        position := ⟨true, 0, some 10967, some 0⟩
        crusher := { x.crusher with move := some { move with entry := { move.entry with code := .applyRecipe, changeId := some 7 } } } }) with
      change := some ⟨7, .plant, 50, 1, true, 3, .direct, 2, 900000, items⟩ }
    s.phase = .running ∧ s.change.map (fun c => (c.wave, c.items)) = some (2, items) ∧ items.Pairwise (fun a b => a.slot < b.slot)
      ∧ (∃ it ∈ items, it.slot = 3 ∧ it.isGap = true ∧ it.state = .active)
      ∧ (∀ it ∈ items, it.slot ≠ 3 → it.state = .active ∨ it.state = .pending → it.isGap = false)
      ∧ (s.slots.get 3).crusher.motion = .settling ∧ (s.slots.get 3).crusher.settle = some 2000
      ∧ (s.slots.get 3).crusher.move.map (fun m => (m.entry.changeId, m.target)) = some (some 7, 10970)
      ∧ toward 10967 10970 4 = .arrived ∧ Quiet (s.slots.get 3) ∧ s.enabled .plant = true ∧ (s.ports.get .plant).tx.length + 2 ≤ 64 := by
  intro items s; subst items s; and_intros <;> decide

theorem witness_ChangesEndWithTheirWork : lastItem.phase = .running ∧ lastItem.change.map (·.id) = some 7
    ∧ lastItem.change.map (·.origin) = some .plant ∧ Taken lastItem .abortChange (ask 0xFF [7]) ∧ (0 : Byte).toNat = 0 ∧ (7 : Byte).toNat = 7
    ∧ (8 : Byte).toNat ≠ 7 ∧ Taken lastItem .abortChange (from_ .stnA 0xFF [7]) ∧ Port.plant ≠ .stnA
    ∧ (QueueLaw lastItem ∧ lastItem.enabled .plant = true ∧ (lastItem.ports.get .plant).tx.length ≤ 22)
    ∧ line.change = none ∧ Taken line .abortChange (ask 0xFF [7]) := by
  and_intros <;> first | decide | (unfold QueueLaw; decide)

def blankBytes : List Byte := [0]

theorem witness_WriteParamsReplacesTheRecord :
    let r := ask 3 coneBytes
    let bin := ask 0xFF [0, 50, 0, 200, 0x03, 0x20, 0x03, 0xE8, 100]
    let mode := fun (k : LockMode) => line.modSlot 3 (fun x => { x with lock := k })
    (Taken line .writeParams bin ∧ thresholdsOf bin.payload = ⟨50, 200, 800, 1000, 100⟩ ∧ line.isWriting .line = false)
      ∧ Taken line .writeParams { bin with port := .stnA } ∧ (thresholdsOf [0, 50, 0, 200, 0x03, 0x20, 0x03, 0xE8, 101]).hys = 101
      ∧ State.isWriting { line with writing := some ⟨.line, .line .default, 0⟩ } .line = true
      ∧ (Taken line .writeParams r ∧ slotOfByte r.slot = some 3 ∧ (line.slots.get 3).lock = .openMode ∧ (line.slots.get 3).kind ≠ .unused
        ∧ (line.slots.get 3).holder = some r.port)
      ∧ ((mode .frozen).slots.get 3).lock = .frozen ∧ ((mode .commissioned).slots.get 3).lockout.state = false
      ∧ ((locked (mode .commissioned) 3).slots.get 3).lockout.state = true ∧ ((mode .fixed).slots.get 3).paramFaulted = false
      ∧ (line.slots.get 3).holder ≠ some .stnB ∧ (line.slots.get 6).kind = .unused
      ∧ recordOf r.payload = some (.crusher .cone { coneParams with envMin := 250 }) ∧ (line.slots.get 3).kind = .cone
      ∧ line.recordValid 3 (.crusher .cone { coneParams with envMin := 250 }) = true
      ∧ line.recordValid 3 (.crusher .cone { coneParams with cm := 0 }) = false
      ∧ (line.slots.get 3).writeBusy = false ∧ (moving.slots.get 3).writeBusy = true ∧ line.isWriting (.param 3) = false
      ∧ (line.slots.get 3).paramFaulted = false ∧ (line.slots.get 3).crusher.tf = 220 ∧ coneParams.envMin ≤ 220
      ∧ (line.slots.get 3).crusher.w ≤ coneParams.wearMax := by
  intro r bin mode; subst r bin mode; and_intros <;> decide

/-- A kind change: a blank record for a cone that nothing names, one that a recipe names, a feeder that a cone is linked to, a slot of the
change, and a cone's record for an unused slot. -/
theorem witness_WriteParamsReplacesTheRecord_kind :
    let free := line.modSlot 2 (fun x => { x with fp := { x.fp with served := none } })
    Taken free .writeParams (ask 3 blankBytes) ∧ slotOfByte 3 = some 3 ∧ (free.slots.get 3).lock = .openMode
      ∧ (free.slots.get 3).holder = some .plant ∧ recordOf blankBytes = some .blank ∧ Record.kind .blank ≠ (free.slots.get 3).kind
      ∧ free.inChange 3 = false ∧ lastItem.inChange 3 = true ∧ line.linkedTo 2 = true ∧ changing.inRecipe 3 = true
      ∧ free.recordValid 3 .blank = true ∧ (free.slots.get 3).writeBusy = false ∧ free.isWriting (.param 3) = false
      ∧ Record.kind .blank ≠ .cone ∧ (line.slots.get 6).kind = .unused ∧ (line.slots.get 6).relief.raw = false
      ∧ Taken line .writeParams (ask 6 coneBytes)
      ∧ (line.modSlot 3 (fun x => { x with cp := { x.cp with linkedFeeder := none } })).recordValid 6
          (.crusher .cone { coneParams with envMin := 250 }) = true := by
  intro free; subst free; and_intros <;> decide

/-- A record of a feeder with R_MIN 600, in the byte order of R174. -/
def feederBytes : List Byte :=
  [3, 3, 2, 0x02, 0x58, 0x03, 0x84, 0, 15, 0, 40, 32, 48, 0x03, 0x84, 0x01, 0xF4, 0x0B, 0xB8, 0x01, 0x2C, 0x01, 0x2C, 0]

/-- A record that narrows the range of T_f; one that lowers WEAR_MAX below W, masked and not, IDLE and blocked; one that gives the crusher
its feeder, its area and its inputs; one that ends a parameter fault; a feeder's; and one of kind NONE for an unused slot in its fault. -/
theorem witness_WriteParamsReplacesTheRecord_effects :
    let r := ask 3 coneBytes
    let c : CrusherParams := { coneParams with envMin := 250 }
    let worn := coneIs (fun c => { c with w := 301 })
    let bare := { line.modSlot 3 (fun x => { x with cp := { x.cp with linkedFeeder := none, area := .a, levelIn := false, powerIn := false }
                                                    relief := ⟨true, true, none⟩ }) with selectorB := ⟨true, true, none⟩ }
    let faulty := coneMoves (.blocked .paramFault)
    (∀ s ∈ [line, worn, unmasked worn 3, unmasked (worn.modSlot 3 (fun x => { x with crusher := { x.crusher with motion := .blocked .trampRepeat } })) 3,
          bare, faulty], Taken s .writeParams r ∧ (s.slots.get 3).lock = .openMode ∧ (s.slots.get 3).holder = some r.port
        ∧ s.recordValid 3 (.crusher .cone c) = true ∧ (s.slots.get 3).writeBusy = false ∧ s.isWriting (.param 3) = false ∧ s.change = none)
      ∧ (recordOf r.payload = some (.crusher .cone c) ∧ c.autoTrim = false
        ∧ (faulty.slots.get 3).crusher.w < ((trimOn faulty).slots.get 3).crusher.wAtMove + c.trimStep ∧ (line.slots.get 3).crusher.tf < c.envMin
        ∧ c.wearMax < (worn.slots.get 3).crusher.w ∧ (worn.slots.get 3).mask.mem .wearLimit = true
        ∧ (bare.slots.get 3).cp.linkedFeeder ≠ c.linkedFeeder ∧ (bare.slots.get 3).cp.area ≠ c.area ∧ bare.seatIn 3 c.area = some .stnB
        ∧ (bare.slots.get 3).cp.levelIn ≠ c.levelIn ∧ ReasonHeld (bare.slots.get 3) .relief
        ∧ ReasonHeld ((coneMoves (.blocked .trampRepeat)).slots.get 3) .relief ∧ (faulty.slots.get 3).paramFaulted = true)
      ∧ (let f : FeederParams := { FeederParams.default with served := some 3, binRel := .draws, rMin := 600 }
        recordOf feederBytes = some (.feeder f) ∧ Taken line .writeParams (ask 2 feederBytes) ∧ (line.slots.get 2).kind = .feeder
          ∧ line.recordValid 2 (.feeder f) = true ∧ (line.slots.get 2).writeBusy = false ∧ (line.slots.get 2).feeder.rb < f.rMin
          ∧ (line.slots.get 2).crusher.queue = [] ∧ (line.slots.get 2).crusher.move = none)
      ∧ (let s := line.modSlot 6 (fun x => { x with unusedFault := true })
        Taken s .writeParams (ask 6 blankBytes) ∧ recordOf blankBytes = some .blank ∧ Record.kind .blank = (s.slots.get 6).kind
          ∧ (s.slots.get 6).lock = .openMode ∧ s.recordValid 6 .blank = true ∧ (s.slots.get 6).unusedFault = true
          ∧ ((locked s 6).slots.get 6).paramFaulted = true ∧ ((locked s 6).slots.get 6).lockout.state = true) := by
  intro r c worn bare faulty; subst r c worn bare faulty
  refine ⟨?_, by and_intros <;> first | decide | (unfold ReasonHeld; decide)⟩
  intro s h; simp only [List.mem_cons, List.not_mem_nil, or_false] at h
  rcases h with rfl | rfl | rfl | rfl | rfl | rfl <;> and_intros <;> decide

theorem witness_LockParamsChangesTheMode : Taken line .lockParams (ask 3 [3]) ∧ slotOfByte 3 = some 3 ∧ (line.slots.get 3).kind ≠ .unused
    ∧ LockMode.ofByte 0 = some .openMode ∧ LockMode.ofByte 1 = some .commissioned ∧ LockMode.ofByte 2 = some .frozen
      ∧ LockMode.ofByte 3 = some .fixed
    ∧ (line.slots.get 3).lock = .openMode ∧ (line.slots.get 3).holder = some .plant ∧ ((ofStationB line).slots.get 3).holder = some .stnB
    ∧ ((locked line 3).slots.get 3).lockout.state = true ∧ (line.slots.get 3).lockout.state = false
    ∧ line.isWriting (.param 3) = false ∧ State.isWriting { line with writing := some ⟨.param 3, line.image (.param 3), 0⟩ } (.param 3) = true := by
  and_intros <;> decide

theorem witness_TheStoreWritesDirtyRecords : line.phase = .running ∧ line.dirty = 0 ∧ line.writing = none
    ∧ State.isDirty { line with dirty := 0x100000000 } (.recipe 7) = true
    ∧ (∀ r ∈ RecId.every, State.isDirty { line with dirty := 0x100000000 } r = true → RecId.number (.recipe 7) ≤ r.number)
    ∧ State.writing { line with writing := some ⟨.param 3, line.image (.param 3), 0⟩ } ≠ none
    ∧ (⟨.param 3, line.image (.param 3), 0⟩ : StoreWrite).image = line.image (.param 3) ∧ line.enabled .plant = true
    ∧ (line.ports.get .plant).tx.length + 0 ≤ 64 := by and_intros <;> decide

theorem witness_PowerKeepsTheStoreAlone : line.writing = none ∧ line.phase ≠ .startUp ∧ State.phase { line with phase := .startUp } = .startUp
    ∧ State.phase { line with phase := .off } = .off ∧ line.phase ≠ .off
    ∧ ((locked line 3).slots.get 3).lockout.state = true ∧ (relieved.slots.get 3).relief.state = true ∧ (line.slots.get 3).kind = .cone
    ∧ (∀ b, (line.slots.get 3).crusher.motion ≠ .blocked b) ∧ (line.slots.get 2).fp.binRel ≠ .neither
    ∧ State.writing { line with writing := some ⟨.line, .line .default, 0⟩ } = some ⟨.line, .line .default, 0⟩ := by
  and_intros <;> first | decide | (intro b; cases b <;> decide)

/-- A stored record of a cone that passes its check value, and one that does not. -/
theorem witness_PowerKeepsTheStoreAlone_records :
    let c : ParamImage := ⟨.cone, coneParams, .default, .frozen, .openMode⟩
    let held := fun (v : Word16) => { State.reset.store with params := State.reset.store.params.set 3 ⟨c, v⟩ }
    (held (crc (Config.storeLayout (.param c)))).good (.param 3) = true ∧ (held (crc (Config.storeLayout (.param c)) + 1)).good (.param 3) = false
      ∧ c.kind.isCrusher = true ∧ (575 : BitVec 12).toNat = 575 ∧ (good 9000).good = true ∧ bad.good = false := by
  refine ⟨by simp [Nonvolatile.good, Nonvolatile.check, Nonvolatile.image, Image.check, PerSlot.get, PerSlot.set], ?_, by decide, by decide,
    by decide, by decide⟩
  simp [Nonvolatile.good, Nonvolatile.check, Nonvolatile.image, Image.check, PerSlot.get, PerSlot.set]

theorem witness_LineResetKeepsTheSettings : Taken line .lineReset (ask 0xFF []) ∧ (ask 0xFE []).slot ≠ 0xFF
    ∧ Taken line .lineReset (from_ .stnA 0xFF []) ∧ (line.slots.get 2).kind = .feeder ∧ (line.slots.get 3).crusher.motion = .idle
    ∧ (line.slots.get 3).crusher.episode = none ∧ (moving.slots.get 3).crusher.motion = .moving ∧ (moving.slots.get 3).crusher.episode = none
    ∧ (approaching.slots.get 3).crusher.motion = .calibrating ∧ (approaching.slots.get 3).crusher.episode = none
    ∧ (draining.slots.get 1).crusher.motion = .draining ∧ (draining.slots.get 1).kind = .jaw
    ∧ Taken recovering .lineReset (ask 0xFF [])
    ∧ (recovering.slots.get 3).crusher.motion = .recovering ∧ (recovering.slots.get 3).crusher.episode = some episode := by
  and_intros <;> decide

theorem witness_MasksTakeTheKindsInScope : Taken line .setMask (ask 0xFF [0x08, 0, 0, 0x42]) ∧ Taken line .clearMask (ask 0xFF [0x08, 0, 0, 0xFF])
    ∧ ((line.slots.get 6).kind = .unused ∧ (6 : SlotId) ∈ slotIds.filter (fun i => (0x40 : Byte).getLsbD i.val))
    ∧ (∀ i ∈ slotIds.filter (fun i => (0x08 : Byte).getLsbD i.val), (line.slots.get i).kind ≠ .unused ∧ (line.slots.get i).holder = some .plant)
    ∧ (let l := slotIds.filter (fun i => (0x0A : Byte).getLsbD i.val)
      (∀ j ∈ l, ((ofStationB line).slots.get j).kind ≠ .unused) ∧ FirstNotHeld (ofStationB line) (ask 0xFF [0x0A, 0, 0, 1]) l 3)
    ∧ kindSetAt [0x08, 0, 0, 0] 1 = 0 ∧ 256 ≤ kindSetAt [0x08, 0, 1, 0] 1 ∧ kindSetAt [0x08, 0, 0, 0xFF] 1 = 255 := by and_intros <;> decide

theorem witness_ConditionsAndSubscriptions : Taken line .clearConditions (ask 0xFF [0x08, 1])
      ∧ Taken line .clearConditions (from_ .stnA 0xFF [0, 1])
    ∧ slotIds.filter (fun i => (0 : Byte).getLsbD i.val) = [] ∧ (line.slots.get 6).kind = .unused
    ∧ (∀ i ∈ slotIds.filter (fun i => (0x08 : Byte).getLsbD i.val), (line.slots.get i).kind ≠ .unused ∧ (line.slots.get i).holder = some .plant)
    ∧ FirstNotHeld (ofStationB line) (ask 0xFF [0x0A, 1]) (slotIds.filter (fun i => (0x0A : Byte).getLsbD i.val)) 3
    ∧ Taken line .subscribe (ask 0xFF [0x02, 0x02])
    ∧ (∀ k : Fin 16, (BitVec.ofNat 16 (wordAt [0x02, 0x02] 0)).getLsbD k.val = true → 1 ≤ k.val ∧ k.val ≤ 9)
    ∧ (BitVec.ofNat 16 (wordAt [0x04, 0x00] 0)).getLsbD 10 = true ∧ (BitVec.ofNat 16 (wordAt [0, 1] 0)).getLsbD 0 = true
    ∧ (CondSet.ofList [.moveTimeout]).mem .moveTimeout = true ∧ Cond.cls .moveTimeout = .fault ∧ Cond.cls .envelope = .maskable := by
  and_intros <;> decide

theorem witness_InputsDebounceAndDrivesDwell : line.phase ≠ .off
      ∧ ((dueIn (.running 2) true false line).slots.get 2).running = ⟨true, false, some 50⟩ ∧ (dueIn (.running 2) true false line).phase = .running
    ∧ State.phase { dueIn (.relief 3) false true line with phase := .startUp } ≠ .running
    ∧ ((dueIn (.relief 3) false true line).discrete (.relief 3)).timer = some 50 ∧ moving.phase = .running
    ∧ ((moving.modSlot 3 (fun x => { x with driver := { x.driver with dwell := some 320 } })).slots.get 3).driver.dwell = some 320
    ∧ (driven.slots.get 3).driver.out = some .closing ∧ Dir.closing ≠ .opening
    ∧ (let v : Driver := ⟨⟨some .opening, true, 0⟩, none, false, some .closing, none⟩
      v.out = none ∧ v.last = some .closing ∧ v.dwell = none ∧ v.cmd.wanted .unread = some .opening
        ∧ ({ v with last := some .opening } : Driver).last = some .opening) := by and_intros <;> decide

end Sys2Proof.Tests
end

section
/-! PROOF. Rules about events that the proofs below share: what an event leaves at a slot, what its end makes of the ports, and the
start check of a busy crusher. -/

namespace Sys2Proof.Proofs

open Sys2Proof Sys2Proof.Machine

/-! ### What an event leaves at a slot -/

@[simp] theorem slot_of (s : State) (i : SlotId) : (Ev.of s).slot i = s.slots.get i := rfl

@[simp] theorem slot_modSlot (ev : Ev) (i : SlotId) (f : Slot → Slot) : (ev.modSlot i f).slot i = f (ev.slot i) := by simp [Ev.slot]

@[simp] theorem slot_modCrusher (ev : Ev) (i : SlotId) (f : Crusher → Crusher) :
    (ev.modCrusher i f).slot i = { ev.slot i with crusher := f (ev.slot i).crusher } := slot_modSlot ev i _

@[simp] theorem slot_notify (ev : Ev) (n : Option SlotId) (b : NoticeBody) (i : SlotId) : (ev.notify n b).slot i = ev.slot i := rfl

@[simp] theorem slot_markDirty (ev : Ev) (r : RecId) (i : SlotId) : (ev.markDirty r).slot i = ev.slot i := rfl

@[simp] theorem slot_setDrive (ev : Ev) (i : SlotId) (c : DriveCmd) : (ev.setDrive i c).slot i = (ev.slot i).command ev.now c :=
  slot_modSlot ev i _

@[simp] theorem slot_holdDrive (ev : Ev) (i : SlotId) : (ev.holdDrive i).slot i = (ev.slot i).command ev.now .hold :=
  slot_setDrive ev i _

theorem record_present {ev : Ev} {i : SlotId} {k : Cond} (h : (ev.slot i).conds.mem k = true) : ev.record i k = ev := if_pos h

/-- A kind that was absent joins the set, and a CONDITION notice is raised (R152, R157). -/
theorem record_absent {ev : Ev} {i : SlotId} {k : Cond} (h : (ev.slot i).conds.mem k = false) :
    ev.record i k =
      let ev' := ev.modSlot i (fun x => { x with conds := x.conds.insert k })
      ev'.notify (some i) (.condition k (if k.cls = .maskable then some ((ev'.slot i).mask.mem k) else none) (ev'.slot i).conds
        (some (ev'.slot i).summary) ev'.s.lineSummary) := if_neg (by simp [h])

theorem record_present_notices {ev : Ev} {i : SlotId} {k : Cond} (h : (ev.slot i).conds.mem k = true) :
    (ev.record i k).notices = ev.notices := by rw [record_present h]

theorem record_absent_notices {ev : Ev} {i : SlotId} {k : Cond} (h : (ev.slot i).conds.mem k = false) :
    (ev.record i k).notices =
      let x := (ev.record i k).slot i
      ev.notices ++ [⟨ev.s.lineClock, some i, .condition k (if k.cls = .maskable then some (x.mask.mem k) else none) x.conds
        (some x.summary) (ev.record i k).s.lineSummary⟩] := by rw [record_absent h]; rfl

/-- A recorded kind is in the slot's set, whether it stood there before or not (R152). -/
@[simp] theorem slot_record (ev : Ev) (i : SlotId) (k : Cond) :
    (ev.record i k).slot i = { ev.slot i with conds := (ev.slot i).conds.insert k } := by
  by_cases h : (ev.slot i).conds.mem k = true
  · rw [record_present h, CondSet.insert_of_mem _ _ h]
  · rw [record_absent (by simpa using h)]; exact slot_modSlot ev i _

@[simp] theorem now_record (ev : Ev) (i : SlotId) (k : Cond) : (ev.record i k).now = ev.now := by
  by_cases h : (ev.slot i).conds.mem k = true
  · rw [record_present h]
  · rw [record_absent (by simpa using h)]; rfl

@[simp] theorem now_modCrusher (ev : Ev) (i : SlotId) (f : Crusher → Crusher) : (ev.modCrusher i f).now = ev.now := rfl

@[simp] theorem now_setDrive (ev : Ev) (i : SlotId) (c : DriveCmd) : (ev.setDrive i c).now = ev.now := rfl

/-! ### The start check of a busy crusher (R41) -/

/-- Where the crusher is not IDLE, no start, no TRIM and no wear block is due. -/
theorem startCheck_busy (ev : Ev) (i : SlotId) (trim : Bool) (h : (ev.slot i).crusher.motion ≠ .idle) (fuel : Nat) :
    Ev.startCheck fuel ev i trim = ev := by
  cases fuel with
  | zero => rfl
  | succ n => simp [Ev.startCheck, Ev.canStart, Ev.trimDue, Ev.crusher, h]

theorem check_busy (ev : Ev) (i : SlotId) (trim : Bool) (h : (ev.slot i).crusher.motion ≠ .idle) : ev.check i trim = ev :=
  startCheck_busy ev i trim h _

/-! ### The end of an event at the ports (R158, R159, R176) -/

/-- Notices that join one after the other at a port. -/
abbrev joinAll (q : PortState) (p : Port) (ns : List Notice) : PortState := ns.foldl (fun q n => q.join p n) q

@[simp] theorem joinAll_tx (ns : List Notice) (q : PortState) (p : Port) : (joinAll q p ns).tx = q.tx := by
  induction ns generalizing q with
  | nil => rfl
  | cons n ns ih => exact (ih _).trans (PortState.join_tx q p n)

@[simp] theorem joinAll_noticeTurn (ns : List Notice) (q : PortState) (p : Port) : (joinAll q p ns).noticeTurn = q.noticeTurn := by
  induction ns generalizing q with
  | nil => rfl
  | cons n ns ih => exact (ih _).trans (PortState.join_noticeTurn q p n)

/-- With no reply, a port hears what `announce` says. -/
theorem deliver_noReplies (q : PortState) (p : Port) (ns : List Notice) :
    q.deliver p true ns [] = q.announce p ns := by
  cases q with
  | mk reqno asm tx notices overrun subs sending noticeTurn note =>
    have htx := joinAll_tx ns ⟨reqno, asm, tx, notices, overrun, subs, sending, noticeTurn, note⟩ p
    have hturn := joinAll_noticeTurn ns ⟨reqno, asm, tx, notices, overrun, subs, sending, noticeTurn, note⟩ p
    cases tx <;> simp_all [PortState.deliver, PortState.announce, joinAll]

/-- With the immediate reply alone, a port takes the reply and then hears what `announce` says. -/
theorem deliver_immediate (q : PortState) (p : Port) (ns : List Notice) (rep : Reply) :
    q.deliver p true ns [⟨p, true, rep⟩] = PortState.announce { q with tx := q.tx ++ [rep] } p ns := by
  have htx := joinAll_tx ns { q with tx := q.tx ++ [rep] } p
  have hturn := joinAll_noticeTurn ns { q with tx := q.tx ++ [rep] } p
  have hne : (q.tx ++ [rep]).isEmpty = false := by cases q.tx <;> rfl
  simp [PortState.deliver, PortState.announce, joinReplies, htx, hturn, hne]

/-- An event that raises the immediate reply of a request and some notices. -/
theorem commit_answer (ev : Ev) (p : Port) (rep : Reply) (hr : ev.replies = [⟨p, true, rep⟩]) (hp : ev.s.phase = .running)
    (he : ev.s.enabled p = true) :
    ev.commit = (ev.s.modPort p (fun q => { q with tx := q.tx ++ [rep] })).announce ev.notices := by
  have hports : ∀ q, (ev.s.ports.get q).deliver q (ev.s.enabled q) ev.notices [⟨p, true, rep⟩]
      = if ev.s.enabled q then
          PortState.announce ((ev.s.modPort p (fun q => { q with tx := q.tx ++ [rep] })).ports.get q) q ev.notices
        else (ev.s.modPort p (fun q => { q with tx := q.tx ++ [rep] })).ports.get q := by
    intro q
    by_cases hq : q = p
    · subst hq; simp [he, deliver_immediate]
    · have hne : (p == q) = false := by simpa using fun h => hq h.symm
      rw [State.modPort_port_ne _ _ hq]
      split
      · next h => rw [h, ← deliver_noReplies]; simp [PortState.deliver, hne]
      · next h => simp [PortState.deliver, h]
  unfold Ev.commit State.announce
  rw [if_pos hp, hr]
  simp only [State.modPort_enabled]
  congr 1
  exact PerPort.ext_get (fun q => by rw [PerPort.get_of, PerPort.get_of, hports])

@[simp] theorem announce_nil (s : State) : s.announce [] = s := by
  unfold State.announce
  have hq : ∀ (q : PortState) (p : Port), q.announce p [] = q := by
    intro q p
    simp only [PortState.announce, List.foldl_nil, Bool.and_assoc, Bool.and_not_self, Bool.and_false, Bool.or_false]
  simp [hq]

/-! ### A request that is answered -/

theorem exec_command (c : ReqCode) (r : Request) (s : State) :
    exec (c.command r) s = .next (s.takeRequest c r (Ev.handle c r)) := by cases c <;> rfl

/-- A request whose handler raises its immediate reply and some notices, and changes nothing about the ports: the reply joins, then the
notices do. -/
theorem exec_answered {s : State} {c : ReqCode} {r : Request} (ht : Taken s c r) {ev : Ev} {d : Disposition} {why : Reason}
    {body : ReplyBody} (hh : Ev.handle c r (Ev.of (s.countRequest r.port)) = ev.answerAt 0 c r d why body) (hr : ev.replies = [])
    (t : State) (hs : ev.s = t.countRequest r.port) (hp : t.phase = s.phase) (he : t.enabled r.port = s.enabled r.port) :
    exec (c.command r) s = .next ((t.withReply c r d why body).announce ev.notices) := by
  obtain ⟨hphase, henabled, -⟩ := State.takes_spec ht.1
  rw [exec_command, State.takeRequest_taken _ _ _ _ ht.1 ht.2, hh]
  rw [commit_answer _ r.port ⟨c.code, d, why, r.tag, ev.reqno r.port, r.slot, body⟩ (by simp [Ev.answerAt, Ev.immediateAt, hr])
    (by simpa [Ev.answerAt, hs, hp] using hphase) (by simpa [Ev.answerAt, hs, he] using henabled)]
  have hreply : (ev.answerAt 0 c r d why body).s.modPort r.port
        (fun q => { q with tx := q.tx ++ [⟨c.code, d, why, r.tag, ev.reqno r.port, r.slot, body⟩] })
      = t.withReply c r d why body := by
    have hreqno : ev.reqno r.port = (t.ports.get r.port).reqno + 1 := by simp [Ev.reqno, hs]
    simp only [Ev.answerAt, Ev.immediateAt_s, hs, hreqno, State.countRequest, State.modPort_modPort]
    simp [State.withReply, State.modPort]
  rw [hreply]; rfl

/-- A request that its handler refuses at once. -/
theorem refuses_of_handle {s : State} {c : ReqCode} {r : Request} {why : Reason} (ht : Taken s c r)
    (hh : Ev.handle c r (Ev.of (s.countRequest r.port)) = (Ev.of (s.countRequest r.port)).refuse c r why) : Refuses s c r why := by
  have h := exec_answered ht (ev := Ev.of (s.countRequest r.port)) hh rfl s rfl rfl rfl
  simpa using h

end Sys2Proof.Proofs
end

section
/-! PROOF. The law of the crusher drives (R44, R45, R167) is not kept from every state that meets it. -/

namespace Sys2Proof.Proofs

open Sys2Proof.Machine

/-- A calibration run in its BACKOFF stage (R85, R91). -/
def backoffRun : CalRun where
  port := .plant
  tag := 0
  reqno := 0
  ack := false
  stage := .backoff
  fromBlocked := false
  pStart := some 5000
  contact := some .accepted
  target := some 5000
  adjCalJump := false
  adjReach := false
  reachFail := false
  stageAt := 0
  trace := []

/-- A cone that settles in BACKOFF, its drive at HOLD, while a fixed-drain timer runs, which no law of the part forbids there. -/
def settlingInBackoff : Slot :=
  { Slot.blank with
    kind := .cone
    position := ⟨true, 0, some 5000, some 0⟩
    crusher := { Crusher.fresh .default with motion := .calibrating, cal := some backoffRun, settle := some 2000, fixedDrain := some 0 } }

/-- The part with that cone in slot 0, at the expiry of the fixed-drain timer. -/
def drainOutInBackoff : State :=
  { State.reset with slots := (PerSlot.all Slot.blank).set 0 settlingInBackoff, pending := [.fixedDrainExpiry 0] }

theorem drainOutInBackoff_motionLaw : MotionLaw drainOutInBackoff := by
  intro i; fin_cases i <;> simp +decide [MotionCoherent, drainOutInBackoff, settlingInBackoff]

theorem drainOutInBackoff_driveLaw : DriveLaw drainOutInBackoff := by
  intro i; fin_cases i <;> simp +decide

/-- The expiry enters the APPROACH, which drives CLOSE, and leaves the settle timer of the BACKOFF running (R87). -/
theorem drainOutInBackoff_step : ∃ t, step drainOutInBackoff = .next t
    ∧ (t.slots.get 0).driver.cmd.dir = some .closing ∧ (t.slots.get 0).crusher.settle = some 2000 :=
  ⟨_, rfl, by decide, by decide⟩

/-- Refutes O6: neither law of the premises says that a fixed-drain timer runs only in a DRAIN stage, and its expiry in BACKOFF enters the
APPROACH with the settle timer running, so that the drive closes beside a settle timer. -/
theorem not_driveLawIsKept : ¬ Obligations.DriveLawIsKept := by
  unfold Obligations.DriveLawIsKept
  intro h
  obtain ⟨t, hstep, hdir, hsettle⟩ := drainOutInBackoff_step
  have law := h _ t drainOutInBackoff_motionLaw drainOutInBackoff_driveLaw hstep 0
  have hkind : (t.slots.get 0).kind.isCrusher = true := by
    injection hstep with hstep; subst hstep; decide
  obtain ⟨-, -, hdrive, -⟩ := law hkind
  have hstopped := (hdrive (by simp [hdir])).1
  simp [hsettle] at hstopped

end Sys2Proof.Proofs
end

section
namespace Sys2Proof.Proofs
open Sys2Proof.Machine

/-- The entry of a line change with id 1 for the gap 220 (R143). -/
def changeEntry : Entry where
  origin := .port .plant
  code := .applyRecipe
  tag := 0
  reqno := 1
  ack := false
  kind := .set
  requested := 220
  applied := some 220
  adjusted := false
  priority := false
  staged := false
  changeId := some 1

/-- The move made from it (R42). -/
def changeMove : MoveRec := ⟨changeEntry, some 220, 5000, none, .moving, .zero, 0⟩

/-- A cone that settles within DB of the target of the change's move. -/
def settlingCone : Slot :=
  { Slot.blank with
    kind := .cone
    position := ⟨true, 0, some 5000, some 0⟩
    crusher := { Crusher.fresh .default with
      motion := .settling, settle := some 2000, move := some changeMove } }

/-- A feeder under its lockout input, which a feed item cannot change (R109, R145). -/
def lockedFeeder : Slot := { Slot.blank with kind := .feeder, lockout := ⟨true, true, none⟩ }

/-- A feed item that stands PENDING for wave 3 and yet holds an applied value. -/
def valuedItem : Item := ⟨0, .feeder, .feed 500 .fixed 500, 3, .pending, .noReason, some 777⟩

/-- What wave 3 makes of it at a feeder under its lockout input: the item fails, and keeps the value (R109, R145). -/
def failedItem : Item := { valuedItem with state := .failed, reason := .lockout }

/-- A change in wave 2 whose last ACTIVE item is the gap item of slot 1. -/
def valuedChange : Change where
  id := 1
  origin := .plant
  tag := 0
  reqno := 1
  ack := false
  recipe := 0
  mode := .direct
  wave := 2
  timer := 900000
  items := [valuedItem, ⟨1, .cone, .gap 220, 2, .active, .noReason, some 220⟩]

def valuedPending : State :=
  { State.reset with slots := ((PerSlot.all Slot.blank).set 0 lockedFeeder).set 1 settlingCone, change := some valuedChange }

theorem valuedPending_settles : ∃ t, exec (.settleExpiry 1) valuedPending = .next t ∧ (t.slots.get 0).feeder.rb = 150 :=
  ⟨_, rfl, by decide⟩

theorem not_applyRecipeCreatesAChange : ¬ Obligations.ApplyRecipeCreatesAChange := by
  unfold Obligations.ApplyRecipeCreatesAChange
  rintro ⟨-, h⟩
  obtain ⟨t, hexec, -, -, hitems, -⟩ := h valuedPending 1 2000 5000 changeMove valuedChange
    rfl rfl rfl (by decide) (by decide) (by decide) rfl rfl rfl rfl rfl (by decide) (by unfold Quiet NoTrim; decide)
  obtain ⟨t', hexec', hrb⟩ := valuedPending_settles
  obtain rfl : t = t' := by rw [hexec] at hexec'; injection hexec'
  obtain ⟨hfeeder, -⟩ := hitems failedItem (by decide) valuedItem (by decide) rfl rfl
  have hvalue : (t.slots.get 0).feeder.rb = 777 := congrArg Feeder.rb hfeeder
  exact absurd (hrb.symm.trans hvalue) (by decide)

end Sys2Proof.Proofs
end


section
/-! PROOF. SET_GAP, STEP_GAP and RECALL at a busy crusher with room in its queue (R30, R31, R35, R36, R40, R58). -/

namespace Sys2Proof.Proofs

open Sys2Proof Sys2Proof.Machine

/-- Two changes of a slot that agree on the slot as it stands are one. -/
theorem modSlot_congr {s : State} {i : SlotId} {f g : Slot → Slot} (h : f (s.slots.get i) = g (s.slots.get i)) :
    s.modSlot i f = s.modSlot i g := by simp [State.modSlot, h]

/-! ### The checks a move request passes (R119, R120) -/

/-- A request on a crusher from its holder reaches its effect. -/
theorem onCrusher_owned {s : State} {r : Request} {i : SlotId} (ho : Owns s r i) (hk : (s.slots.get i).kind.isCrusher = true)
    (c : ReqCode) (effect : Ev → SlotId → Ev) :
    (Ev.of (s.countRequest r.port)).onCrusher c r effect = effect (Ev.of (s.countRequest r.port)) i := by
  simp [Ev.onCrusher, State.slotOf, ho.1, hk, State.holderRefusal, ho.2, Ev.unless]

theorem moveGate_open {s : State} {i : SlotId} (hu : Unbarred s i) (hb : ∀ b, (s.slots.get i).crusher.motion ≠ .blocked b) :
    s.moveGate i = none := by
  obtain ⟨hlockout, hstop, hheld⟩ := hu
  simp only [State.moveGate, hlockout, hstop, hheld]
  cases hm : (s.slots.get i).crusher.motion with
  | blocked b => exact absurd hm (hb b)
  | _ => rfl

@[simp] theorem moveGate_countRequest (s : State) (p : Port) (i : SlotId) : (s.countRequest p).moveGate i = s.moveGate i := rfl

/-! ### The envelope check at enqueue (R30, R31) -/

theorem enqueueGap_inside {ev : Ev} {i : SlotId} {g : Nat} (hlo : (ev.slot i).cp.envMin ≤ g) (hhi : g ≤ (ev.slot i).cp.envMax) :
    ev.enqueueGap i g = some (g, false) := by
  have hlo' : ¬ (g : Int) < (ev.slot i).cp.envMin := by omega
  have hhi' : ¬ (g : Int) > (ev.slot i).cp.envMax := by omega
  simp [Ev.enqueueGap, envelopeCheck, hlo', hhi']

/-- A gap outside the envelope is clamped to the nearer bound where ENVELOPE is masked. -/
theorem enqueueGap_masked {ev : Ev} {i : SlotId} {g : Nat} (h : g < (ev.slot i).cp.envMin ∨ (ev.slot i).cp.envMax < g)
    (hmask : (ev.slot i).mask.mem .envelope = true) :
    ev.enqueueGap i g = some (if g < (ev.slot i).cp.envMin then (ev.slot i).cp.envMin else (ev.slot i).cp.envMax, true) := by
  by_cases hlo : g < (ev.slot i).cp.envMin
  · simp [Ev.enqueueGap, envelopeCheck, Ev.masked, hlo, hmask]
  · simp [Ev.enqueueGap, envelopeCheck, Ev.masked, hlo, h.resolve_left hlo, hmask]

/-- Where ENVELOPE is not masked, a gap outside the envelope is refused. -/
theorem enqueueGap_unmasked {ev : Ev} {i : SlotId} {g : Nat} (h : g < (ev.slot i).cp.envMin ∨ (ev.slot i).cp.envMax < g)
    (hmask : (ev.slot i).mask.mem .envelope = false) : ev.enqueueGap i g = none := by
  by_cases hlo : g < (ev.slot i).cp.envMin
  · simp [Ev.enqueueGap, envelopeCheck, Ev.masked, hlo, hmask]
  · simp [Ev.enqueueGap, envelopeCheck, Ev.masked, hlo, h.resolve_left hlo, hmask]

/-! ### An entry joins the queue of a busy crusher (R36) -/

/-- A slot once an entry has joined its queue: an entry clamped at its enqueue records ENVELOPE, and `f` is what the request makes of the
recall stack (R31, R36, R57). -/
def joinedSlot (e : Entry) (f : RecallStack → RecallStack) (x : Slot) : Slot :=
  { x with
    crusher := { x.crusher with queue := insertEntry x.crusher.queue e, stack := f x.crusher.stack }
    conds := if e.adjusted then x.conds.insert .envelope else x.conds }

/-- The event of an entry that joins. -/
def joinedEv (ev : Ev) (i : SlotId) (e : Entry) (f : RecallStack → RecallStack) : Ev :=
  (ev.modCrusher i (fun c => { c with stack := f c.stack })).joinQueue i e

theorem joinedEv_plain {ev : Ev} {i : SlotId} {e : Entry} {f : RecallStack → RecallStack} (h : e.adjusted = false) :
    joinedEv ev i e f = ev.modSlot i (joinedSlot e f) := by
  simp [joinedEv, Ev.joinQueue, h, Ev.modCrusher, Ev.modSlot, Ev.onState]
  exact modSlot_congr (by simp [joinedSlot, h])

theorem joinedEv_clamped {ev : Ev} {i : SlotId} {e : Entry} {f : RecallStack → RecallStack} (h : e.adjusted = true) :
    joinedEv ev i e f = (ev.modSlot i (fun x => { joinedSlot e f x with conds := x.conds })).record i .envelope := by
  simp [joinedEv, Ev.joinQueue, h, Ev.modCrusher, Ev.modSlot, Ev.onState, joinedSlot]

theorem slot_joinedEv (ev : Ev) (i : SlotId) (e : Entry) (f : RecallStack → RecallStack) :
    (joinedEv ev i e f).slot i = joinedSlot e f (ev.slot i) := by
  cases h : e.adjusted with
  | false => rw [joinedEv_plain h, slot_modSlot]
  | true => rw [joinedEv_clamped h, slot_record, slot_modSlot]; simp [joinedSlot, h]

theorem joinedEv_s (ev : Ev) (i : SlotId) (e : Entry) (f : RecallStack → RecallStack) :
    (joinedEv ev i e f).s = ev.s.modSlot i (joinedSlot e f) := by
  cases h : e.adjusted with
  | false => rw [joinedEv_plain h]; rfl
  | true =>
    rw [joinedEv_clamped h, Ev.record_s, slot_modSlot, Ev.modSlot_s]
    split
    · next hmem =>
      have hmem' : (ev.s.slots.get i).conds.mem .envelope = true := hmem
      refine modSlot_congr ?_
      simpa [joinedSlot, h] using (CondSet.insert_of_mem _ _ hmem').symm
    · rw [State.modSlot_modSlot]
      exact modSlot_congr (by simp [joinedSlot, h])

@[simp] theorem joinedEv_replies (ev : Ev) (i : SlotId) (e : Entry) (f : RecallStack → RecallStack) :
    (joinedEv ev i e f).replies = ev.replies := by
  cases h : e.adjusted with
  | false => rw [joinedEv_plain h]; rfl
  | true => rw [joinedEv_clamped h, Ev.record_replies]; rfl

theorem makeRoom_free {ev : Ev} {i : SlotId} (h : (ev.slot i).crusher.queue.length + 1 ≤ 4) (e : Entry) : ev.makeRoom i e = some ev :=
  if_pos (show (ev.slot i).crusher.queue.length < 4 by omega)

/-- At a busy crusher with room the entry joins and waits, and the reply is QUEUED, with QUEUE_NEAR from NEAR_FULL on (R36). -/
theorem addRequest_busy {ev : Ev} {i : SlotId} (hm : (ev.slot i).crusher.motion ≠ .idle)
    (hq : (ev.slot i).crusher.queue.length + 1 ≤ 4) (c : ReqCode) (r : Request) (e : Entry) (v : Int) (f : RecallStack → RecallStack) :
    ev.addRequest c r i e v (fun c => { c with stack := f c.stack }) =
      (joinedEv ev i e f).answerAt ev.replies.length c r .queued
        (if (ev.slot i).crusher.queue.length + 1 ≥ (ev.slot i).cp.nearFull then .queueNear
         else if e.adjusted then .envelope else .noReason)
        (.entry v e.adjusted ((ev.slot i).crusher.queue.length + 1)) := by
  have hslot := slot_joinedEv ev i e f
  have hcheck : (joinedEv ev i e f).check i = joinedEv ev i e f := check_busy _ _ _ (by rw [hslot]; exact hm)
  have hqueue : ((joinedEv ev i e f).crusher i).queue.length = (ev.slot i).crusher.queue.length + 1 := by
    simp [Ev.crusher, hslot, joinedSlot]
  simp only [Ev.addRequest, makeRoom_free hq, Ev.insertRequest]
  rw [show (ev.modCrusher i (fun c => { c with stack := f c.stack })).joinQueue i e = joinedEv ev i e f from rfl, hcheck]
  simp [entryReply, startedEntry, hqueue]

/-- A taken request that comes to add an entry at a busy crusher with room. -/
theorem exec_adds {s : State} {c : ReqCode} {r : Request} {i : SlotId} (ht : Taken s c r)
    (hm : (s.slots.get i).crusher.motion ≠ .idle) (hq : (s.slots.get i).crusher.queue.length + 1 ≤ 4) {e : Entry} {v : Int}
    {f : RecallStack → RecallStack}
    (hh : Ev.handle c r (Ev.of (s.countRequest r.port))
      = (Ev.of (s.countRequest r.port)).addRequest c r i e v (fun c => { c with stack := f c.stack })) :
    exec (c.command r) s = .next (((s.modSlot i (joinedSlot e f)).withReply c r .queued
        (if (s.slots.get i).crusher.queue.length + 1 ≥ (s.slots.get i).cp.nearFull then .queueNear
         else if e.adjusted then .envelope else .noReason)
        (.entry v e.adjusted ((s.slots.get i).crusher.queue.length + 1))).announce
      (joinedEv (Ev.of (s.countRequest r.port)) i e f).notices) := by
  refine exec_answered ht (hh.trans (addRequest_busy (ev := Ev.of (s.countRequest r.port)) hm hq c r e v f)) (joinedEv_replies ..) _ ?_ rfl (by simp)
  rw [joinedEv_s]; rfl

/-- The same for an entry that no clamp has adjusted: it raises no notice. -/
theorem exec_adds_plain {s : State} {c : ReqCode} {r : Request} {i : SlotId} (ht : Taken s c r)
    (hm : (s.slots.get i).crusher.motion ≠ .idle) (hq : (s.slots.get i).crusher.queue.length + 1 ≤ 4) {e : Entry} {v : Int}
    {f : RecallStack → RecallStack} (he : e.adjusted = false)
    (hh : Ev.handle c r (Ev.of (s.countRequest r.port))
      = (Ev.of (s.countRequest r.port)).addRequest c r i e v (fun c => { c with stack := f c.stack })) :
    exec (c.command r) s = .next ((s.modSlot i (fun x => { x with crusher :=
        { x.crusher with queue := insertEntry x.crusher.queue e, stack := f (s.slots.get i).crusher.stack } })).withReply c r .queued
        (if (s.slots.get i).crusher.queue.length + 1 ≥ (s.slots.get i).cp.nearFull then .queueNear else .noReason)
        (.entry v false ((s.slots.get i).crusher.queue.length + 1))) := by
  rw [exec_adds ht hm hq hh, joinedEv_plain he]
  have hslot : s.modSlot i (joinedSlot e f) = s.modSlot i (fun x => { x with crusher :=
      { x.crusher with queue := insertEntry x.crusher.queue e, stack := f (s.slots.get i).crusher.stack } }) :=
    modSlot_congr (by simp [joinedSlot, he])
  simp [he, hslot]

/-! ### The three requests -/

section
variable {s : State} {r : Request} {i : SlotId}

/-- SET_GAP at an unbarred crusher from its holder: the range of the gap, the envelope check, the entry (R40). -/
theorem handle_setGap (hc : OnCrusher s .setGap r i) (hg : s.moveGate i = none) :
    let ev := Ev.of (s.countRequest r.port)
    Ev.handle .setGap r ev =
      if wordAt r.payload 0 ≤ 4095 then
        match ev.enqueueGap i (wordAt r.payload 0) with
        | none => ev.refuse .setGap r .envelope
        | some (applied, adjusted) =>
          ev.addRequest .setGap r i (s.entryFor .setGap r .set (wordAt r.payload 0) (some applied) adjusted) applied id
      else ev.refuse .setGap r .badValue := by
  obtain ⟨-, ho, hk⟩ := hc
  simp only [Ev.handle, Ev.onSetGap, onCrusher_owned ho hk, Ev.of_s, moveGate_countRequest, hg]
  split
  · simp [Ev.unless, Ev.requestEntry, State.entryFor, Ev.reqno] <;> rfl
  · simp [Ev.unless]

theorem handle_stepGap (hc : OnCrusher s .stepGap r i) (hg : s.moveGate i = none) :
    let ev := Ev.of (s.countRequest r.port)
    Ev.handle .stepGap r ev =
      if -500 ≤ signedAt r.payload 0 ∧ signedAt r.payload 0 ≤ 500 then
        ev.addRequest .stepGap r i (s.entryFor .stepGap r .step (signedAt r.payload 0) none false) (signedAt r.payload 0) id
      else ev.refuse .stepGap r .badValue := by
  obtain ⟨-, ho, hk⟩ := hc
  simp only [Ev.handle, Ev.onStepGap, onCrusher_owned ho hk, Ev.of_s, moveGate_countRequest, hg]
  split
  · simp [Ev.unless, Ev.requestEntry, State.entryFor, Ev.reqno]
  · simp [Ev.unless]

/-- RECALL pops the newest entry of the stack once its gap is accepted (R57, R58). -/
theorem handle_recallGap (hc : OnCrusher s .recallGap r i) (hg : s.moveGate i = none) :
    let ev := Ev.of (s.countRequest r.port)
    let stack := (s.slots.get i).crusher.stack
    Ev.handle .recallGap r ev =
      match stack.place stack.top with
      | none => ev.refuse .recallGap r .empty
      | some o =>
        match ev.enqueueGap i o.gap with
        | none => ev.refuse .recallGap r .envelope
        | some (applied, adjusted) =>
          ev.addRequest .recallGap r i (s.entryFor .recallGap r .set o.gap (some applied) adjusted) applied
            (fun c => { c with stack := c.stack.pop }) := by
  obtain ⟨-, ho, hk⟩ := hc
  simp only [Ev.handle, Ev.onRecall, onCrusher_owned ho hk, Ev.of_s, moveGate_countRequest, hg, Ev.unless]
  simp only [Ev.requestEntry, State.entryFor, Ev.reqno, Ev.of_s, State.countRequest_port] <;> rfl

/-- A clamped SET_GAP: the entry joins with the clamped gap, ENVELOPE is recorded, and a CONDITION notice tells of it where it was absent
(R31, R36, R152). -/
theorem exec_setGap_clamped (hc : OnCrusher s .setGap r i) (hm : (s.slots.get i).crusher.motion ≠ .idle)
    (hq : (s.slots.get i).crusher.queue.length + 1 ≤ 4) {e : Entry} {v : Int} (he : e.adjusted = true)
    (hmask : (s.slots.get i).mask.mem .envelope = true)
    (hh : Ev.handle .setGap r (Ev.of (s.countRequest r.port))
      = (Ev.of (s.countRequest r.port)).addRequest .setGap r i e v (fun c => { c with stack := id c.stack })) :
    let x := s.slots.get i
    let s' := (s.modSlot i (fun y =>
      { y with crusher := { y.crusher with queue := insertEntry y.crusher.queue e, stack := x.crusher.stack } })).modSlot i
        (fun y => { y with conds := y.conds.insert .envelope })
    let y := s'.slots.get i
    exec (.setGap r) s = .next ((s'.withReply .setGap r .queued
        (if x.crusher.queue.length + 1 ≥ x.cp.nearFull then .queueNear else .envelope)
        (.entry v true (x.crusher.queue.length + 1))).announce
      (if x.conds.mem .envelope then []
       else [⟨s.lineClock, some i, .condition .envelope (some true) y.conds (some y.summary) s'.lineSummary⟩])) := by
  intro x s' y
  have hs' : s.modSlot i (joinedSlot e id) = s' := by
    refine Eq.trans ?_ (State.modSlot_modSlot ..).symm
    exact modSlot_congr (by simp [joinedSlot, he, x])
  have hy : y = joinedSlot e id x :=
    (congrArg (fun u : State => u.slots.get i) hs'.symm).trans (State.modSlot_slot_self ..)
  have hslot : (joinedEv (Ev.of (s.countRequest r.port)) i e id).slot i = y := by rw [slot_joinedEv, hy]; rfl
  have hsummary : (joinedEv (Ev.of (s.countRequest r.port)) i e id).s.lineSummary = s'.lineSummary := by
    rw [joinedEv_s, ← hs']; rfl
  have hnotices : (joinedEv (Ev.of (s.countRequest r.port)) i e id).notices =
      if x.conds.mem .envelope then []
      else [⟨s.lineClock, some i, .condition .envelope (some true) y.conds (some y.summary) s'.lineSummary⟩] := by
    rw [joinedEv_clamped he] at hslot hsummary ⊢
    cases hmem : x.conds.mem .envelope with
    | true => rw [record_present_notices (by rw [slot_modSlot]; exact hmem)]; rfl
    | false =>
      have hmask' : y.mask.mem .envelope = true := by rw [hy]; exact hmask
      rw [record_absent_notices (by rw [slot_modSlot]; exact hmem), hslot, hsummary]
      simp [hmask', Cond.cls, State.lineClock]
  refine (exec_adds hc.1 hm hq hh).trans ?_
  rw [hnotices, hs', he]
  rfl

end

/-- Settles O28: each request comes down to an entry that joins, or to a refusal, at a crusher whose start check finds nothing. -/
theorem busySlotQueuesTheMove : Obligations.BusySlotQueuesTheMove := by
  unfold Obligations.BusySlotQueuesTheMove
  intro s r i x c n near joined hu hm hb hq
  have hg := moveGate_open hu hb
  refine ⟨fun hc => ⟨fun hbad => ?_, fun hlo hhi hok => ?_, fun hout hok => ⟨fun hmask => ?_, fun hmask => ?_⟩⟩, fun hc => ⟨fun hbad => ?_, fun hlo hhi => ?_⟩,
    fun hc => ⟨fun hnone => ?_, fun o ho => ⟨fun hlo hhi => ?_, fun hout hmask => ?_⟩⟩⟩
  · exact refuses_of_handle hc.1 (by rw [handle_setGap hc hg, if_neg (by omega)])
  · refine exec_adds_plain (f := id) hc.1 hm hq rfl ?_
    rw [handle_setGap hc hg, if_pos hok, enqueueGap_inside hlo hhi]; rfl
  · refine refuses_of_handle hc.1 ?_
    rw [handle_setGap hc hg, if_pos hok, enqueueGap_unmasked (ev := Ev.of (s.countRequest r.port)) hout hmask]
  · refine exec_setGap_clamped hc hm hq rfl hmask ?_
    rw [handle_setGap hc hg, if_pos hok, enqueueGap_masked (ev := Ev.of (s.countRequest r.port)) hout hmask]; rfl
  · exact refuses_of_handle hc.1 (by rw [handle_stepGap hc hg, if_neg (by omega)])
  · refine exec_adds_plain (f := id) hc.1 hm hq rfl ?_
    rw [handle_stepGap hc hg, if_pos ⟨hlo, hhi⟩]; rfl
  · refine refuses_of_handle hc.1 ?_
    rw [handle_recallGap hc hg]; simp only [x, c] at hnone; rw [hnone]
  · refine exec_adds_plain (f := RecallStack.pop) hc.1 hm hq rfl ?_
    rw [handle_recallGap hc hg]; simp only [x, c] at ho; rw [ho]
    simp only [enqueueGap_inside (ev := Ev.of (s.countRequest r.port)) hlo hhi]
  · refine refuses_of_handle hc.1 ?_
    rw [handle_recallGap hc hg]; simp only [x, c] at ho; rw [ho]
    simp only [enqueueGap_unmasked (ev := Ev.of (s.countRequest r.port)) hout hmask]

end Sys2Proof.Proofs
end


section
/-! PROOF. What the work at one crusher leaves unchanged: the events of the motion controller and of the wear tracker change the slot's
crusher, driver and condition set, the inhibit set and reference of its linked feeder, and nothing else. -/

namespace Sys2Proof.Proofs

open Sys2Proof Sys2Proof.Machine

/-! ### The frame of one slot -/

/-- A slot once a crusher has worked: `own` says that it is the crusher's slot, `linked` that it is the feeder's. -/
structure SlotWorked (own linked : Prop) (y y' : Slot) : Prop where
  frame : y' = { y with crusher := y'.crusher, driver := y'.driver, conds := y'.conds, feeder := y'.feeder }
  other : ¬ own → y'.crusher = y.crusher ∧ y'.driver = y.driver ∧ y'.conds = y.conds
  fed : y'.feeder = { y.feeder with
    inhibits := y'.feeder.inhibits, r := y'.feeder.r, rPrev := y'.feeder.rPrev, seed := y'.feeder.seed }
  unfed : ¬ linked → y'.feeder = y.feeder

theorem SlotWorked.refl (own linked : Prop) (y : Slot) : SlotWorked own linked y y :=
  ⟨rfl, fun _ => ⟨rfl, rfl, rfl⟩, rfl, fun _ => rfl⟩

theorem SlotWorked.trans {own linked : Prop} {x y z : Slot} (h : SlotWorked own linked x y) (h' : SlotWorked own linked y z) :
    SlotWorked own linked x z where
  frame := by rw [h'.frame, h.frame]
  other hj :=
    have ⟨hc, hd, hs⟩ := h.other hj
    have ⟨hc', hd', hs'⟩ := h'.other hj
    ⟨hc'.trans hc, hd'.trans hd, hs'.trans hs⟩
  fed := by rw [h'.fed, h.fed]
  unfed hl := (h'.unfed hl).trans (h.unfed hl)

/-! ### The frame of the part -/

/-- What the work at crusher `i` with linked feeder `l` makes of the part before its event ends; a record that was dirty stays so. -/
structure Worked (i : SlotId) (l : Option SlotId) (s u : State) : Prop where
  rest : u = { s with slots := u.slots, dirty := u.dirty, clock := u.clock }
  dirty : ∀ r, s.isDirty r = true → u.isDirty r = true
  slot : ∀ j, SlotWorked (j = i) (l = some j) (s.slots.get j) (u.slots.get j)

section
variable {i : SlotId} {l : Option SlotId} {s u v : State}

theorem Worked.refl (i : SlotId) (l : Option SlotId) (s : State) : Worked i l s s := ⟨rfl, fun _ h => h, fun _ => .refl ..⟩

theorem Worked.trans (h : Worked i l s u) (h' : Worked i l u v) : Worked i l s v where
  rest := by rw [h'.rest, h.rest]
  dirty r hr := h'.dirty r (h.dirty r hr)
  slot j := (h.slot j).trans (h'.slot j)

theorem Worked.ports (h : Worked i l s u) : u.ports = s.ports := by rw [h.rest]

theorem Worked.phase (h : Worked i l s u) : u.phase = s.phase := by rw [h.rest]

theorem Worked.enabled (h : Worked i l s u) (p : Port) : u.enabled p = s.enabled p := by rw [h.rest]; cases p <;> rfl

theorem Worked.cp (h : Worked i l s u) (j : SlotId) : (u.slots.get j).cp = (s.slots.get j).cp := by
  rw [(h.slot j).frame]

/-- The crusher's own slot changes. -/
theorem Worked.own {f : Slot → Slot} (hf : ∀ x, f x = { x with crusher := (f x).crusher, driver := (f x).driver, conds := (f x).conds }) :
    Worked i l s (s.modSlot i f) where
  rest := rfl
  dirty _ h := h
  slot j := by
    by_cases hj : j = i
    · subst hj
      rw [State.modSlot_slot_self, hf]
      exact ⟨rfl, fun h => absurd rfl h, rfl, fun _ => rfl⟩
    · rw [State.modSlot_slot_ne _ _ hj]; exact .refl ..

/-- The linked feeder's inhibit set and reference change. -/
theorem Worked.feeder {f : SlotId} {g : Feeder → Feeder} (hl : l = some f)
    (hg : ∀ x, g x = { x with inhibits := (g x).inhibits, r := (g x).r, rPrev := (g x).rPrev, seed := (g x).seed }) :
    Worked i l s (s.modSlot f (fun x => { x with feeder := g x.feeder })) where
  rest := rfl
  dirty _ h := h
  slot j := by
    by_cases hj : j = f
    · subst hj
      rw [State.modSlot_slot_self, hg]
      exact ⟨rfl, fun _ => ⟨rfl, rfl, rfl⟩, rfl, fun h => absurd hl h⟩
    · rw [State.modSlot_slot_ne _ _ hj]; exact .refl ..

end

theorem getLsbD_or_twoPow (d : BitVec 33) {n : Nat} (m : Nat) (h : d.getLsbD n = true) : (d ||| BitVec.twoPow 33 m).getLsbD n = true := by
  simp [h]

/-! ### The steps of an event -/

section
variable {l : Option SlotId} (ev : Ev) (i : SlotId)

theorem worked_modCrusher (f : Crusher → Crusher) : Worked i l ev.s (ev.modCrusher i f).s :=
  Worked.own (f := fun x => { x with crusher := f x.crusher }) (fun _ => rfl)

theorem worked_setDrive (c : DriveCmd) : Worked i l ev.s (ev.setDrive i c).s :=
  Worked.own (f := fun x => x.command ev.now c) (fun _ => rfl)

theorem worked_record (k : Cond) : Worked i l ev.s (ev.record i k).s := by
  rw [Ev.record_s]; split
  · exact .refl ..
  · exact Worked.own (fun _ => rfl)

theorem worked_markDirty (r : RecId) : Worked i l ev.s (ev.markDirty r).s :=
  ⟨rfl, fun _ h => getLsbD_or_twoPow _ _ h, fun _ => .refl ..⟩

theorem isDirty_markDirty (r : RecId) : (ev.markDirty r).s.isDirty r = true := by
  have hn : r.number < 33 := by cases r <;> simp [RecId.number] <;> omega
  simp [State.isDirty, Ev.markDirty, hn]

theorem raise_eq (f : Feeder) (r : Inhibit) : f.raise r = { f with
    inhibits := (f.raise r).inhibits, r := (f.raise r).r, rPrev := (f.raise r).rPrev, seed := (f.raise r).seed } := by
  unfold Feeder.raise; split <;> rfl

theorem worked_raiseLinked (r : Inhibit) : Worked i (ev.slot i).cp.linkedFeeder ev.s (ev.raiseLinked i r).s := by
  unfold Ev.raiseLinked
  split
  · next f hf =>
    rw [Ev.raise_s]; split
    · exact .refl ..
    · exact Worked.feeder hf (fun x => raise_eq x r)
  · exact .refl ..

theorem worked_lowerLinked (r : Inhibit) : Worked i (ev.slot i).cp.linkedFeeder ev.s (ev.lowerLinked i r).s := by
  unfold Ev.lowerLinked
  split
  · next f hf =>
    rw [Ev.lower_s]; split
    · exact Worked.feeder (g := (·.lower r)) hf (fun _ => rfl)
    · exact .refl ..
  · exact .refl ..

theorem worked_stopMotion : Worked i l ev.s (ev.stopMotion i).s := (worked_setDrive ev i _).trans (worked_modCrusher _ i _)

end

/-! ### The end of an event (R159, R176) -/

/-- Notices that join leave a port as it is but for its notice queue, which they lengthen, and its overrun mark. -/
theorem joinAll_heard (ns : List Notice) (q : PortState) (p : Port) :
    joinAll q p ns = { q with notices := (joinAll q p ns).notices, overrun := (joinAll q p ns).overrun }
      ∧ q.notices <+: (joinAll q p ns).notices := by
  induction ns generalizing q with
  | nil => exact ⟨rfl, List.prefix_rfl⟩
  | cons n ns ih =>
    obtain ⟨hrest, hprefix⟩ := ih (q.join p n)
    refine ⟨?_, ?_⟩
    · rw [show joinAll q p (n :: ns) = joinAll (q.join p n) p ns from rfl]
      conv_lhs => rw [hrest]
      simp
    · refine List.IsPrefix.trans ?_ hprefix
      rcases PortState.join_notices q p n with h | ⟨h, -⟩
      · rw [h]
      · rw [h]; exact List.prefix_append ..

/-- An enabled port takes the replies that find a place, and then the notices join. -/
theorem deliver_enabled (q : PortState) (p : Port) (ns : List Notice) (rs : List Raised) :
    ∃ replies turn, q.deliver p true ns rs = { joinAll { q with tx := q.tx ++ replies } p ns with noticeTurn := turn } :=
  ⟨_, _, rfl⟩

/-- Replies and notices join behind those that wait, and a port changes in nothing else. -/
theorem deliver_heard (q : PortState) (p : Port) (e : Bool) (ns : List Notice) (rs : List Raised) :
    let q' := q.deliver p e ns rs
    q' = { q with tx := q'.tx, notices := q'.notices, overrun := q'.overrun, noticeTurn := q'.noticeTurn }
      ∧ q.tx <+: q'.tx ∧ q.notices <+: q'.notices := by
  cases e with
  | false => exact ⟨rfl, List.prefix_rfl, List.prefix_rfl⟩
  | true =>
    obtain ⟨replies, turn, hq⟩ := deliver_enabled q p ns rs
    obtain ⟨hrest, hprefix⟩ := joinAll_heard ns { q with tx := q.tx ++ replies } p
    simp only [hq, joinAll_tx]
    exact ⟨by conv_lhs => rw [hrest], List.prefix_append .., hprefix⟩

theorem commit_heard {s : State} {ev : Ev} (hports : ev.s.ports = s.ports) : PortsHeard s ev.commit := by
  intro p
  unfold Ev.commit
  split
  · rw [← hports]; simpa using deliver_heard (ev.s.ports.get p) p (ev.s.enabled p) ev.notices ev.replies
  · rw [hports]; exact ⟨rfl, List.prefix_rfl, List.prefix_rfl⟩

/-- The end of an event of a crusher's work. -/
theorem onlyCrusher_commit {i : SlotId} {s : State} {ev : Ev} (h : Worked i (s.slots.get i).cp.linkedFeeder s ev.s) : OnlyCrusher s ev.commit i := by
  refine ⟨?_, commit_heard (by rw [h.rest]), fun j => ?_⟩
  · rw [Ev.commit_eq]; conv_lhs => rw [h.rest]
  · obtain ⟨hframe, hother, hfed, hunfed⟩ := h.slot j
    simp only [Ev.commit_slots]
    refine ⟨fun hj => ?_, fun _ => hframe, hunfed, fun _ => hfed⟩
    obtain ⟨hc, hd, hs⟩ := hother hj
    rw [hc, hd, hs] at hframe
    exact hframe

/-! ### Notices that all join (R158, R159) -/

/-- At a port that is subscribed to every kind, notices offered to it join as long as there are places. -/
theorem joinAll_notices {p : Port} : ∀ (ns : List Notice) (q : PortState), q.subs = NoticeSet.every →
    (∀ n ∈ ns, n.offeredTo p = true) → q.notices.length + ns.length ≤ 16 → (joinAll q p ns).notices = q.notices ++ ns
  | [], q, _, _, _ => by simp
  | n :: ns, q, hsubs, hoffer, hlen => by
    have hkind : NoticeSet.every.getLsbD n.body.kind.code = true := by cases n.body.kind <;> decide
    have hroom : q.notices.length < 16 := by simp only [List.length_cons] at hlen; omega
    have hjoin : q.join p n = { q with notices := q.notices ++ [n] } := by
      simp [PortState.join, hsubs, hkind, hoffer n, Config.noticePlaces, hroom]
    show (joinAll (q.join p n) p ns).notices = _
    rw [hjoin, joinAll_notices ns { q with notices := q.notices ++ [n] } hsubs (fun m hm => hoffer m (by simp [hm]))
      (by simp at hlen ⊢; omega)]
    simp

/-- The notices of an event at such a port. -/
theorem commit_notices {ev : Ev} {p : Port} (hp : ev.s.phase = .running) (he : ev.s.enabled p = true)
    (hsubs : (ev.s.ports.get p).subs = NoticeSet.every) (hoffer : ∀ n ∈ ev.notices, n.offeredTo p = true)
    (hlen : (ev.s.ports.get p).notices.length + ev.notices.length ≤ 16) :
    (ev.commit.ports.get p).notices = (ev.s.ports.get p).notices ++ ev.notices := by
  obtain ⟨replies, turn, hq⟩ := deliver_enabled (ev.s.ports.get p) p ev.notices ev.replies
  simp only [Ev.commit, hp, if_true, PerPort.get_of, he, hq]
  exact joinAll_notices _ _ hsubs hoffer hlen

end Sys2Proof.Proofs
end


section
/-! PROOF. A tonnage edge, the wear it adds, the wear ceiling, and the TRIM that the wear calls for (R59, R80, R81, R83, R166). -/

namespace Sys2Proof.Proofs

open Sys2Proof Sys2Proof.Machine

variable {l : Option SlotId}

/-! ### A TRIM that ends without reaching its target (R51) -/

/-- The event once a TRIM has ended FAILED: the drive at HOLD, the timers stopped, the record gone, the MOVE_END notice raised. -/
def endedTrim (ev : Ev) (i : SlotId) (m : MoveRec) (why : Reason) : Ev :=
  (((ev.stopMotion i).modCrusher i (fun c => { c with move := none })).moveEndNotice i m.entry .failed why).setMotion i .idle

/-- A TRIM of a cone comes from no port and from no line change, so its failure tells no one but by a notice; and the start check that
follows may create no TRIM (R59). -/
theorem finishMove_trim {ev : Ev} {i : SlotId} {m : MoveRec} {tf : Nat} (hkind : (ev.slot i).kind = .cone)
    (hmove : (ev.slot i).crusher.move = some m) (hentry : m.entry = trimEntry tf) (hstate : (ev.slot i).crusher.motion.inEpisode = false)
    (why : Reason) : ev.finishMove i .failed why = (endedTrim ev i m why, some false) := by
  have hchange : ∀ (ev : Ev) (st : ItemState), ev.changeItemEnd none i st why = ev := by
    intro ev st; unfold Ev.changeItemEnd; cases ev.s.change <;> rfl
  have hkind' : ((ev.stopMotion i).slot i).kind = .cone := by simpa [Ev.stopMotion, Slot.command] using hkind
  simp [Ev.finishMove, Ev.crusher, hmove, hstate, hkind', Ev.closeMove, hentry, trimEntry, hchange, endedTrim, Ev.entryFinal]

theorem worked_endedTrim (ev : Ev) (i : SlotId) (m : MoveRec) (why : Reason) : Worked i l ev.s (endedTrim ev i m why).s := by
  refine ((worked_stopMotion ev i).trans (worked_modCrusher _ i (fun c => { c with move := none }))).trans ?_
  exact Worked.own (f := fun x => { x with crusher := { x.crusher with motion := .idle } }) (fun _ => rfl)

theorem slot_endedTrim (ev : Ev) (i : SlotId) (m : MoveRec) (why : Reason) :
    (endedTrim ev i m why).slot i = { (ev.slot i).command ev.now .hold with
      crusher := { (ev.slot i).crusher.stopMoveTimers with move := none, motion := .idle } } := by
  simp [endedTrim, Ev.setMotion, Ev.moveEndNotice, Ev.stopMotion, Slot.command]

theorem endedTrim_notices (ev : Ev) (i : SlotId) (m : MoveRec) (why : Reason) :
    (endedTrim ev i m why).notices = ev.notices ++ [⟨ev.s.lineClock, some i,
      .moveEnd m.entry.kind .failed why m.entry.origin m.entry.tag (ev.slot i).crusher.tf⟩] := by
  simp [endedTrim, Ev.setMotion, Ev.moveEndNotice, Ev.notify, Ev.stopMotion, Ev.crusher, Slot.command, Crusher.stopMoveTimers,
    Ev.holdDrive, State.lineClock]
  rfl

/-! ### The drive of a TRIM from its start (R42, R44, R47) -/

/-- A start that is over for the start check: the slot has work, or stands IDLE with nothing to start and no further TRIM to create. -/
def Started (i : SlotId) (r : Ev × Option Bool) : Prop :=
  r.2 = none ∨ r.2 = some false ∧ (r.1.slot i).crusher.queue = [] ∧ (r.1.slot i).crusher.wearBlock = false

/-- A cone whose move record is a TRIM, with nothing else to do. -/
structure TrimSlot (x : Slot) (m : MoveRec) (tf : Nat) : Prop where
  kind : x.kind = .cone
  move : x.crusher.move = some m
  entry : m.entry = trimEntry tf
  queue : x.crusher.queue = []
  wearBlock : x.crusher.wearBlock = false

theorem started_finishMove {ev : Ev} {i : SlotId} {m : MoveRec} {tf : Nat} (h : TrimSlot (ev.slot i) m tf)
    (hstate : (ev.slot i).crusher.motion.inEpisode = false) (why : Reason) :
    Worked i l ev.s (ev.finishMove i .failed why).1.s ∧ Started i (ev.finishMove i .failed why) := by
  rw [finishMove_trim h.kind h.move h.entry hstate]
  refine ⟨worked_endedTrim ev i m why, .inr ⟨rfl, ?_, ?_⟩⟩
  · rw [slot_endedTrim]; exact h.queue
  · rw [slot_endedTrim]; exact h.wearBlock

theorem worked_moveStep (ev : Ev) (i : SlotId) (p : Nat) : Worked i l ev.s (ev.moveStep i p).s := by
  unfold Ev.moveStep
  dsimp only
  split
  · exact .refl ..
  · split
    · exact worked_setDrive ev i _
    · exact ((worked_setDrive ev i _).trans (worked_modCrusher _ i _)).trans (worked_modCrusher _ i _)

theorem worked_addCause (ev : Ev) (i : SlotId) (k : Cause) : Worked i l ev.s (ev.addCause i k).s := by
  unfold Ev.addCause
  dsimp only
  split
  case h_7 => exact .refl ..
  case h_4 | h_5 | h_6 => exact worked_modCrusher ev i _
  all_goals
    exact (((worked_stopMotion ev i).trans (worked_modCrusher _ i _)).trans (worked_modCrusher _ i _)).trans (worked_modCrusher _ i _)

/-- A TRIM that enters MOVING drives, settles, waits for its sensor or fails (R44, R45, R47). -/
theorem started_enterMoving {ev : Ev} {i : SlotId} {m : MoveRec} {tf : Nat} (h : TrimSlot (ev.slot i) m tf) :
    Worked i l ev.s (ev.enterMoving i).1.s ∧ Started i (ev.enterMoving i) := by
  have hmoving := worked_modCrusher (l := l) ev i (fun c => { c with motion := .moving })
  unfold Ev.enterMoving
  dsimp only
  split
  · exact ⟨hmoving.trans (worked_moveStep _ i _), .inl rfl⟩
  · unfold Ev.positionLost
    dsimp only
    have hlost : Worked i l ev.s ((((ev.setMotion i .moving).record i .positionInvalid).holdDrive i).modCrusher i
        (fun c => { c with settle := none })).s :=
      ((hmoving.trans (worked_record _ i _)).trans (worked_setDrive _ i _)).trans (worked_modCrusher _ i _)
    split
    · exact ⟨hlost.trans (worked_addCause _ i _), .inl rfl⟩
    · have hslot : TrimSlot (((((ev.setMotion i .moving).record i .positionInvalid).holdDrive i).modCrusher i
          (fun c => { c with settle := none })).slot i) m tf := by
        obtain ⟨hkind, hmove, hentry, hqueue, hblock⟩ := h
        constructor <;> simpa [Ev.setMotion, Slot.command]
      obtain ⟨hworked, hstarted⟩ := started_finishMove hslot (by simp [Ev.setMotion, Slot.command, Motion.inEpisode]) .sensor
      exact ⟨hlost.trans hworked, hstarted⟩

/-! ### The aim and the launch of a TRIM (R28, R42) -/

/-- The target computation for a gap at a slot, with its REACH mask (R24). -/
abbrev aimAt (x : Slot) (gap : Nat) : Target := targetFor x.cp x.crusher.z x.crusher.w (x.mask.mem .reach) gap

/-- The event once a REACH of the target computation is recorded. -/
def reachTold (ev : Ev) (i : SlotId) (gap : Nat) : Ev := if (aimAt (ev.slot i) gap).reach then ev.record i .reach else ev

/-- The event once the move has its target and its travel timer runs (R42). -/
def launched (ev : Ev) (i : SlotId) (gap pt : Nat) : Ev :=
  (reachTold ev i gap).modCrusher i (fun c => { c with
    move := c.move.map (fun m => { m with
      target := pt
      adjusted := if m.adjusted.isNone && (aimAt (ev.slot i) gap).reach then some .reach else m.adjusted })
    travel := some (ev.now + (ev.slot i).cp.travel * 1000) })

theorem worked_reachTold (ev : Ev) (i : SlotId) (gap : Nat) : Worked i l ev.s (reachTold ev i gap).s := by
  unfold reachTold; split
  · exact worked_record ev i _
  · exact .refl ..

theorem slot_reachTold (ev : Ev) (i : SlotId) (gap : Nat) : (reachTold ev i gap).slot i = { ev.slot i with
    conds := if (aimAt (ev.slot i) gap).reach then (ev.slot i).conds.insert .reach else (ev.slot i).conds } := by
  unfold reachTold; split <;> simp

theorem now_reachTold (ev : Ev) (i : SlotId) (gap : Nat) : (reachTold ev i gap).now = ev.now := by
  unfold reachTold; split <;> simp

theorem aim_unreached {ev : Ev} {i : SlotId} {gap : Nat} (h : (aimAt (ev.slot i) gap).pos = none) :
    ev.aim i gap = (reachTold ev i gap).finishMove i .failed .reach := by
  simp only [Ev.aim, Ev.masked, h]; rfl

theorem launch_cone {ev : Ev} {i : SlotId} (h : (ev.slot i).kind = .cone) :
    ev.launch i = (ev.modCrusher i (fun c => { c with travel := some (ev.now + (ev.slot i).cp.travel * 1000) })).enterMoving i := by
  simp only [Ev.launch, h]; rfl

theorem modCrusher_modCrusher (ev : Ev) (i : SlotId) (f g : Crusher → Crusher) :
    (ev.modCrusher i f).modCrusher i g = ev.modCrusher i (fun c => g (f c)) := by
  simp [Ev.modCrusher, Ev.modSlot, Ev.onState]

/-- Two changes of a crusher that agree on the crusher as it stands are one. -/
theorem modCrusher_congr {ev : Ev} {i : SlotId} {f g : Crusher → Crusher} (h : f (ev.slot i).crusher = g (ev.slot i).crusher) :
    ev.modCrusher i f = ev.modCrusher i g := by
  have h' : f (ev.s.slots.get i).crusher = g (ev.s.slots.get i).crusher := h
  simp [Ev.modCrusher, Ev.modSlot, Ev.onState, State.modSlot, h']

theorem aim_launched {ev : Ev} {i : SlotId} {gap pt : Nat} (h : (aimAt (ev.slot i) gap).pos = some pt)
    (hkind : (ev.slot i).kind = .cone) : ev.aim i gap = (launched ev i gap pt).enterMoving i := by
  have hslot := slot_reachTold ev i gap
  have haim : ev.aim i gap = ((reachTold ev i gap).onMove i (fun m => { m with
      target := pt
      adjusted := if m.adjusted.isNone && (aimAt (ev.slot i) gap).reach then some .reach else m.adjusted })).launch i := by
    simp only [Ev.aim, Ev.masked, h]; rfl
  rw [haim, launch_cone (by simpa [Ev.onMove, hslot] using hkind)]
  simp only [Ev.onMove, now_modCrusher, now_reachTold, modCrusher_modCrusher, slot_modCrusher, hslot]
  rfl

theorem worked_launched (ev : Ev) (i : SlotId) (gap pt : Nat) : Worked i l ev.s (launched ev i gap pt).s :=
  (worked_reachTold ev i gap).trans (worked_modCrusher _ i _)

theorem slot_launched (ev : Ev) (i : SlotId) (gap pt : Nat) : (launched ev i gap pt).slot i = { ev.slot i with
    conds := if (aimAt (ev.slot i) gap).reach then (ev.slot i).conds.insert .reach else (ev.slot i).conds
    crusher := { (ev.slot i).crusher with
      move := (ev.slot i).crusher.move.map (fun m => { m with
        target := pt
        adjusted := if m.adjusted.isNone && (aimAt (ev.slot i) gap).reach then some .reach else m.adjusted })
      travel := some (ev.now + (ev.slot i).cp.travel * 1000) } } := by
  simp only [launched, slot_modCrusher, slot_reachTold]

/-- The aim of a TRIM of a cone: the work it does there, and that its start is over. -/
theorem started_aim {ev : Ev} {i : SlotId} {m : MoveRec} {tf : Nat} (h : TrimSlot (ev.slot i) m tf)
    (hidle : (ev.slot i).crusher.motion = .idle) (gap : Nat) : Worked i l ev.s (ev.aim i gap).1.s ∧ Started i (ev.aim i gap) := by
  obtain ⟨hkind, hmove, hentry, hqueue, hblock⟩ := h
  cases hpos : (aimAt (ev.slot i) gap).pos with
  | none =>
    rw [aim_unreached hpos]
    have hslot : TrimSlot ((reachTold ev i gap).slot i) m tf := by rw [slot_reachTold]; exact ⟨hkind, hmove, hentry, hqueue, hblock⟩
    obtain ⟨hworked, hstarted⟩ := started_finishMove hslot (by simp [slot_reachTold, hidle, Motion.inEpisode]) .reach
    exact ⟨(worked_reachTold ev i gap).trans hworked, hstarted⟩
  | some pt =>
    rw [aim_launched hpos hkind]
    have hslot := slot_launched ev i gap pt
    rw [hmove] at hslot
    obtain ⟨hworked, hstarted⟩ := started_enterMoving (ev := launched ev i gap pt) (i := i) (m := _) (tf := tf)
      (by rw [hslot]; exact ⟨hkind, rfl, hentry, hqueue, hblock⟩)
    exact ⟨(worked_launched ev i gap pt).trans hworked, hstarted⟩

/-! ### The creation of a TRIM (R41, R59) -/

/-- When a TRIM is created (R59). -/
theorem trimDue_iff (ev : Ev) (i : SlotId) :
    let x := ev.slot i
    ev.trimDue i = true ↔ x.kind = .cone ∧ x.cp.autoTrim = true ∧ x.crusher.wAtMove + x.cp.trimStep ≤ x.crusher.w
      ∧ x.crusher.motion = .idle ∧ x.crusher.queue = [] ∧ Unbarred ev.s i := by
  simp only [Ev.trimDue, Bool.and_eq_true, Bool.not_eq_true', beq_iff_eq, decide_eq_true_eq, List.isEmpty_iff]
  simp only [Unbarred, Ev.slot]
  tauto

/-- The move record of a TRIM for a target in force (R42). -/
abbrev trimMove (tf : Nat) : MoveRec := ⟨trimEntry tf, some tf, 0, none, .moving, .zero, 0⟩

/-- The event once the TRIM has become the move record. -/
def trimHead (ev : Ev) (i : SlotId) : Ev := ev.modCrusher i (fun c => { c with queue := [], move := some (trimMove c.tf) })

/-- Where the slot is IDLE, unbarred and has one unstaged entry, that entry starts (R41). -/
theorem canStart_single {ev : Ev} {i : SlotId} {e : Entry} (hidle : (ev.slot i).crusher.motion = .idle)
    (hqueue : (ev.slot i).crusher.queue = [e]) (he : e.staged = false) (hu : Unbarred ev.s i) : ev.canStart i = true := by
  obtain ⟨hlockout, hstop, hheld⟩ := hu
  simp only [Ev.canStart, hidle, hqueue, hheld, hstop, show (ev.slot i).lockout.state = false from hlockout]
  simp [he]

/-- Where the queue is empty and no TRIM may be created, a start check finds nothing. -/
theorem startCheck_over {ev : Ev} {i : SlotId} (hqueue : (ev.slot i).crusher.queue = [])
    (hblock : (ev.slot i).crusher.wearBlock = false) (fuel : Nat) : Ev.startCheck fuel ev i false = ev := by
  cases fuel with
  | zero => rfl
  | succ n => simp [Ev.startCheck, Ev.crusher, Ev.canStart, hqueue, hblock]

/-- A start check that starts the head, once that start is over. -/
theorem startCheck_started {ev : Ev} {i : SlotId} (hblock : (ev.slot i).crusher.wearBlock = false) (hcan : ev.canStart i = true)
    (hstarted : Started i (ev.startHead i)) (fuel : Nat) (trim : Bool) :
    Ev.startCheck (fuel + 1) ev i trim = (ev.startHead i).1 := by
  have hb : (ev.crusher i).wearBlock = false := hblock
  simp only [Ev.startCheck, hb, hcan]
  rcases hstarted with h | ⟨h, hqueue, hwear⟩
  · simp [h]
  · simp [h, startCheck_over hqueue hwear]

theorem slot_addTrim {ev : Ev} {i : SlotId} (hqueue : (ev.slot i).crusher.queue = []) : (ev.addTrim i).slot i = { ev.slot i with
    crusher := { (ev.slot i).crusher with queue := [trimEntry (ev.slot i).crusher.tf] } } := by
  simp [Ev.addTrim, hqueue, insertEntry, trimEntry]

theorem startHead_addTrim {ev : Ev} {i : SlotId} (hqueue : (ev.slot i).crusher.queue = []) :
    (ev.addTrim i).startHead i = (trimHead ev i).aim i (ev.slot i).crusher.tf := by
  have hslot := slot_addTrim hqueue
  have hhead : ((ev.addTrim i).slot i).crusher.queue = [trimEntry (ev.slot i).crusher.tf] := by rw [hslot]
  have htf : ((ev.addTrim i).slot i).crusher.tf = (ev.slot i).crusher.tf := by rw [hslot]
  have hmove : (ev.addTrim i).modCrusher i (fun c => { c with queue := [], move := some (trimMove (ev.slot i).crusher.tf) })
      = trimHead ev i := by
    rw [Ev.addTrim, modCrusher_modCrusher]
    exact modCrusher_congr rfl
  unfold Ev.startHead
  simp only [hhead, htf, resolveEntry, trimEntry]
  rw [← hmove]
  rfl

/-- A TRIM created at a slot where it is due starts at once, and no further start follows (R41, R59). -/
theorem startCheck_addTrim {ev : Ev} {i : SlotId} (hdue : ev.trimDue i = true) (hblock : (ev.slot i).crusher.wearBlock = false)
    (fuel : Nat) : Ev.startCheck (fuel + 1) (ev.addTrim i) i true = ((trimHead ev i).aim i (ev.slot i).crusher.tf).1
      ∧ Worked i l ev.s ((trimHead ev i).aim i (ev.slot i).crusher.tf).1.s := by
  obtain ⟨hkind, -, -, hidle, hqueue, hu⟩ := (trimDue_iff ev i).1 hdue
  have hadd := slot_addTrim hqueue
  have hcan : (ev.addTrim i).canStart i = true := by
    refine canStart_single (by rw [hadd]; exact hidle) (by rw [hadd]) rfl ⟨?_, hu.2⟩
    rw [show ((ev.addTrim i).s.slots.get i) = _ from hadd]; exact hu.1
  have hslot : TrimSlot ((trimHead ev i).slot i) (trimMove (ev.slot i).crusher.tf) (ev.slot i).crusher.tf := by
    constructor <;> simp [trimHead, hkind, hblock]
  obtain ⟨hworked, hstarted⟩ := started_aim hslot (by simpa [trimHead] using hidle) (ev.slot i).crusher.tf
  rw [← startHead_addTrim hqueue] at hstarted
  refine ⟨?_, (worked_modCrusher ev i _).trans hworked⟩
  rw [startCheck_started (by rw [hadd]; exact hblock) hcan hstarted, startHead_addTrim hqueue]

/-! ### Events with few notices -/

/-- An event has raised at most `k` notices, all of kinds that are offered to every port (R158). -/
structure FewNotices (k : Nat) (ev : Ev) : Prop where
  few : ev.notices.length ≤ k
  offered : ∀ n ∈ ev.notices, ∀ p, n.offeredTo p = true

theorem FewNotices.of (s : State) : FewNotices 0 (Ev.of s) := ⟨by simp, by simp⟩

theorem FewNotices.mono {k l : Nat} {ev : Ev} (h : FewNotices k ev) (hkl : k ≤ l) : FewNotices l ev := ⟨h.few.trans hkl, h.offered⟩

/-- One notice more. -/
theorem FewNotices.append {k : Nat} {ev ev' : Ev} (h : FewNotices k ev) {n : Notice} (hn : ev'.notices = ev.notices ++ [n])
    (hoffer : ∀ p, n.offeredTo p = true) : FewNotices (k + 1) ev' where
  few := by rw [hn, List.length_append]; exact Nat.add_le_add_right h.few 1
  offered m hm := by
    rw [hn, List.mem_append, List.mem_singleton] at hm
    rcases hm with hm | rfl
    · exact h.offered m hm
    · exact hoffer

theorem FewNotices.record {k : Nat} {ev : Ev} (h : FewNotices k ev) (i : SlotId) (c : Cond) : FewNotices (k + 1) (ev.record i c) := by
  cases hmem : (ev.slot i).conds.mem c with
  | true => rw [record_present hmem]; exact h.mono (Nat.le_succ k)
  | false => exact h.append (record_absent_notices hmem) (fun _ => rfl)

theorem FewNotices.reachTold {k : Nat} {ev : Ev} (h : FewNotices k ev) (i : SlotId) (gap : Nat) :
    FewNotices (k + 1) (reachTold ev i gap) := by
  unfold Proofs.reachTold; split
  · exact h.record i _
  · exact h.mono (Nat.le_succ k)

/-! ### How a TRIM starts or fails (R28, R33, R42, R44, R45) -/

section
variable {ev : Ev} {i : SlotId} {m : MoveRec} {p : Nat}

theorem slot_enterMoving_drive (hmove : (ev.slot i).crusher.move = some m) (hvalid : (ev.slot i).position.valid = true)
    (hlast : (ev.slot i).position.last = some p) {d : Dir} (hd : toward p m.target (ev.slot i).cp.db = .drive d) :
    (ev.enterMoving i).1.slot i = Slot.command { ev.slot i with crusher := { (ev.slot i).crusher with motion := .moving } } ev.now
      ((ev.slot i).moveCommand p m.target d) := by
  simp [Ev.enterMoving, Ev.setMotion, hvalid, hlast, Ev.moveStep, hmove, hd, Ev.driveTo, Slot.moveCommand, Slot.closeLimit]

theorem slot_enterMoving_arrived (hmove : (ev.slot i).crusher.move = some m) (hvalid : (ev.slot i).position.valid = true)
    (hlast : (ev.slot i).position.last = some p) (ha : toward p m.target (ev.slot i).cp.db = .arrived) :
    (ev.enterMoving i).1.slot i = { (ev.slot i).command ev.now .hold with
      crusher := { (ev.slot i).crusher with motion := .settling, settle := some (ev.now + (ev.slot i).cp.settle) } } := by
  simp [Ev.enterMoving, Ev.setMotion, hvalid, hlast, Ev.moveStep, hmove, ha, Slot.command, Ev.timer]
  rfl

end

theorem slot_trimHead {ev : Ev} {i : SlotId} (hqueue : (ev.slot i).crusher.queue = []) : (trimHead ev i).slot i = { ev.slot i with
    crusher := { (ev.slot i).crusher with move := some (trimMove (ev.slot i).crusher.tf) } } := by
  rw [trimHead, slot_modCrusher, ← hqueue]

/-- The condition set of a slot once a REACH of its TRIM's target is recorded. -/
def trimConds (x : Slot) : CondSet := if (aimAt x x.crusher.tf).reach then x.conds.insert .reach else x.conds

/-- The crusher of a slot once its TRIM has its target and its travel timer runs. -/
def trimRun (x : Slot) (pt now : Nat) : Crusher := { x.crusher with
  move := some { trimMove x.crusher.tf with target := pt, adjusted := if (aimAt x x.crusher.tf).reach then some .reach else none }
  travel := some (now + x.cp.travel * 1000) }

theorem now_launched_trim (ev : Ev) (i : SlotId) (gap pt : Nat) : (launched (trimHead ev i) i gap pt).now = ev.now := now_reachTold ..

section
variable {ev : Ev} {i : SlotId} (hqueue : (ev.slot i).crusher.queue = [])
include hqueue

theorem slot_launched_trim (pt : Nat) : (launched (trimHead ev i) i (ev.slot i).crusher.tf pt).slot i =
    { ev.slot i with conds := trimConds (ev.slot i), crusher := trimRun (ev.slot i) pt ev.now } := by
  rw [slot_launched, slot_trimHead hqueue]; rfl

variable (hkind : (ev.slot i).kind = .cone)
include hkind

theorem aim_trim {pt : Nat} (hpos : (aimAt (ev.slot i) (ev.slot i).crusher.tf).pos = some pt) :
    (trimHead ev i).aim i (ev.slot i).crusher.tf = (launched (trimHead ev i) i (ev.slot i).crusher.tf pt).enterMoving i :=
  aim_launched (by rw [slot_trimHead hqueue]; exact hpos) (by rw [slot_trimHead hqueue]; exact hkind)

/-- A TRIM with no target in reach ends FAILED(REACH). -/
theorem aim_trim_unreached (hidle : (ev.slot i).crusher.motion = .idle)
    (hpos : (aimAt (ev.slot i) (ev.slot i).crusher.tf).pos = none) :
    (trimHead ev i).aim i (ev.slot i).crusher.tf =
      (endedTrim (reachTold (trimHead ev i) i (ev.slot i).crusher.tf) i (trimMove (ev.slot i).crusher.tf) .reach, some false) := by
  have hhead := slot_trimHead hqueue
  rw [aim_unreached (by rw [hhead]; exact hpos)]
  refine finishMove_trim (tf := (ev.slot i).crusher.tf) ?_ ?_ rfl ?_ .reach <;> rw [slot_reachTold, hhead]
  · exact hkind
  · exact congrArg Motion.inEpisode hidle

variable {pt p : Nat} (hpos : (aimAt (ev.slot i) (ev.slot i).crusher.tf).pos = some pt)
  (hvalid : (ev.slot i).position.valid = true) (hlast : (ev.slot i).position.last = some p)
include hpos hvalid hlast

theorem slot_trim_driven {d : Dir} (hd : toward p pt (ev.slot i).cp.db = .drive d) :
    ((trimHead ev i).aim i (ev.slot i).crusher.tf).1.slot i = Slot.command { ev.slot i with
      conds := trimConds (ev.slot i)
      crusher := { trimRun (ev.slot i) pt ev.now with motion := .moving } } ev.now ((ev.slot i).moveCommand p pt d) := by
  have hrun := slot_launched_trim hqueue pt
  rw [aim_trim hqueue hkind hpos, slot_enterMoving_drive (by rw [hrun]; rfl) (by rw [hrun]; exact hvalid)
    (by rw [hrun]; exact hlast) (by rw [hrun]; exact hd), hrun, now_launched_trim]
  rfl

theorem slot_trim_arrived (ha : toward p pt (ev.slot i).cp.db = .arrived) :
    ((trimHead ev i).aim i (ev.slot i).crusher.tf).1.slot i = { Slot.command { ev.slot i with
        conds := trimConds (ev.slot i), crusher := trimRun (ev.slot i) pt ev.now } ev.now .hold with
      crusher := { trimRun (ev.slot i) pt ev.now with motion := .settling, settle := some (ev.now + (ev.slot i).cp.settle) } } := by
  have hrun := slot_launched_trim hqueue pt
  rw [aim_trim hqueue hkind hpos, slot_enterMoving_arrived (by rw [hrun]; rfl) (by rw [hrun]; exact hvalid)
    (by rw [hrun]; exact hlast) (by rw [hrun]; exact ha), hrun, now_launched_trim]

end

/-- Its MOVE_END notice reaches every port that is subscribed and has three places left (R51, R158, R159). -/
theorem trim_unreached_notice {ev : Ev} {i : SlotId} {q : Port} (hrun : ev.s.phase = .running) (hfew : FewNotices 1 ev)
    (he : ev.s.enabled q = true) (hsubs : (ev.s.ports.get q).subs = NoticeSet.every)
    (hlen : (ev.s.ports.get q).notices.length ≤ 13) (tf : Nat) :
    ⟨ev.now / 1000, some i, .moveEnd .trim .failed .reach .line 0 (ev.slot i).crusher.tf⟩
      ∈ ((endedTrim (reachTold (trimHead ev i) i tf) i (trimMove tf) .reach).commit.ports.get q).notices := by
  have hworked := ((worked_modCrusher (l := none) ev i _).trans (worked_reachTold (trimHead ev i) i tf)).trans
    (worked_endedTrim _ i (trimMove tf) .reach)
  have hnotices := endedTrim_notices (reachTold (trimHead ev i) i tf) i (trimMove tf) .reach
  have hfew' : FewNotices 3 _ :=
    (FewNotices.reachTold (ev := trimHead ev i) ⟨hfew.few, hfew.offered⟩ i tf).append hnotices (fun _ => rfl)
  rw [← hworked.ports] at hsubs hlen
  rw [commit_notices (hworked.phase.trans hrun) ((hworked.enabled q).trans he) hsubs (fun n hn => hfew'.offered n hn q)
    (by have := hfew'.few; omega), hnotices]
  refine List.mem_append_right _ (List.mem_append_right _ (List.mem_singleton.2 ?_))
  have hclock : (reachTold (trimHead ev i) i tf).s.clock = ev.now := now_reachTold ..
  rw [slot_reachTold, State.lineClock, hclock, trimHead, slot_modCrusher]
  rfl

/-- The TRIM that is created at a slot, as `TrimRuns` says it of a state with that slot. -/
theorem trimRuns_aim {ev : Ev} {i : SlotId} (hdue : ev.trimDue i = true) (hrun : ev.s.phase = .running) (hfew : FewNotices 1 ev)
    {u : State} (hrest : ev.s = { u with slots := ev.s.slots, dirty := ev.s.dirty })
    (hslot : ∃ f, ev.slot i = { u.slots.get i with feeder := f }) :
    TrimRuns u ((trimHead ev i).aim i (ev.slot i).crusher.tf).1.commit i := by
  obtain ⟨hkind, -, -, hidle, hqueue, -⟩ := (trimDue_iff ev i).1 hdue
  have hnow : ev.now = u.clock := by rw [Ev.now, hrest]
  have hget : ∀ e : Ev, e.commit.slots.get i = e.slot i := fun e => by rw [Ev.commit_slots]; rfl
  obtain ⟨f, hf⟩ := hslot
  refine ⟨fun pt p hpos hvalid hlast => ?_, fun hpos => ?_⟩
  · have hpos' : (aimAt (ev.slot i) (ev.slot i).crusher.tf).pos = some pt := by rw [hf]; exact hpos
    have hdrive := fun d => slot_trim_driven (d := d) hqueue hkind hpos' (p := p) (by rw [hf]; exact hvalid) (by rw [hf]; exact hlast)
    have harrive := slot_trim_arrived hqueue hkind hpos' (p := p) (by rw [hf]; exact hvalid) (by rw [hf]; exact hlast)
    rw [hget]
    generalize (trimHead ev i).aim i (ev.slot i).crusher.tf = r at hdrive harrive ⊢
    rw [hnow, hf] at harrive
    simp only [hnow, hf] at hdrive
    refine ⟨?_, fun d hd => ?_, fun ha => ?_⟩
    · cases htoward : toward p pt (u.slots.get i).cp.db with
      | drive d => rw [hdrive d htoward]; rfl
      | arrived => rw [harrive htoward]; rfl
    · rw [hdrive d hd]; exact ⟨rfl, Driver.settle_cmd ..⟩
    · rw [harrive ha]; exact ⟨rfl, Slot.command_hold _ _⟩
  · have hpos' : (aimAt (ev.slot i) (ev.slot i).crusher.tf).pos = none := by rw [hf]; exact hpos
    have htf : (ev.slot i).crusher.tf = (u.slots.get i).crusher.tf := by rw [hf]
    have hidle' : (u.slots.get i).crusher.motion = .idle := by rw [hf] at hidle; exact hidle
    rw [aim_trim_unreached hqueue hkind hidle hpos', hget, slot_endedTrim, slot_reachTold, slot_trimHead hqueue]
    refine ⟨by rw [hf]; rfl, (Slot.command_hold _ _).1, (Slot.command_hold _ _).2, ?_, fun q he hsubs hlen => ?_⟩
    · rw [hf]; simp [Crusher.stopMoveTimers, hidle']
    · have hports : ev.s.ports = u.ports := by rw [hrest]
      have he' : ev.s.enabled q = u.enabled q := by rw [hrest]; cases q <;> rfl
      rw [← he'] at he
      rw [← hports] at hsubs hlen
      have hnotice := trim_unreached_notice (i := i) hrun hfew he hsubs hlen (ev.slot i).crusher.tf
      rw [← hnow, ← htf]; exact hnotice

/-! ### The trim evaluation and the start check at an empty queue (R59) -/

/-- The trim evaluation where no TRIM is due. -/
theorem evaluateTrim_not_due {ev : Ev} {i : SlotId} (h : ¬ ev.trimDue i = true) : ev.evaluateTrim i = ev := if_neg h

theorem evaluateTrim_busy {ev : Ev} {i : SlotId} (h : (ev.slot i).crusher.motion ≠ .idle) : ev.evaluateTrim i = ev :=
  evaluateTrim_not_due (fun hdue => h ((trimDue_iff ev i).1 hdue).2.2.2.1)

/-- The trim evaluation where one is due. -/
theorem evaluateTrim_due {ev : Ev} {i : SlotId} (hdue : ev.trimDue i = true) (hblock : (ev.slot i).crusher.wearBlock = false) :
    ev.evaluateTrim i = ((trimHead ev i).aim i (ev.slot i).crusher.tf).1 :=
  (if_pos hdue).trans (startCheck_addTrim (l := none) hdue hblock _).1

/-- A start check of an empty queue where a TRIM is due. -/
theorem check_trim_due {ev : Ev} {i : SlotId} (hdue : ev.trimDue i = true) (hblock : (ev.slot i).crusher.wearBlock = false) :
    ev.check i = ((trimHead ev i).aim i (ev.slot i).crusher.tf).1 := by
  obtain ⟨-, -, -, -, hqueue, -⟩ := (trimDue_iff ev i).1 hdue
  refine Eq.trans ?_ (startCheck_addTrim (l := none) hdue hblock (((ev.crusher i).queue.length + 1))).1
  have hb : (ev.crusher i).wearBlock = false := hblock
  have hq : (ev.crusher i).queue = [] := hqueue
  have hcan : ev.canStart i = false := by simp [Ev.canStart, hqueue]
  rw [Ev.check, Ev.startCheck]
  simp [hb, hq, hcan, hdue]

/-! ### The wear ceiling (R52, R81) -/

section
variable {ev : Ev} {i : SlotId}

theorem wearCeiling_masked (h : (ev.slot i).mask.mem .wearLimit = true) : ev.wearCeiling i = ev.record i .wearLimit := by
  simp [Ev.wearCeiling, Ev.masked, h]

variable (h : (ev.slot i).mask.mem .wearLimit = false)
include h

theorem wearCeiling_idle (hm : (ev.slot i).crusher.motion = .idle) :
    ev.wearCeiling i = (ev.record i .wearLimit).enterBlocked i .wearLimit := by
  simp [Ev.wearCeiling, Ev.masked, h, Ev.crusher, hm]

theorem wearCeiling_blocked (hm : (ev.slot i).crusher.motion = .blocked .wearLimit) :
    ev.wearCeiling i = ev.record i .wearLimit := by
  simp [Ev.wearCeiling, Ev.masked, h, Ev.crusher, hm]

theorem wearCeiling_busy (hm : (ev.slot i).crusher.motion ≠ .idle) (hw : (ev.slot i).crusher.motion ≠ .blocked .wearLimit) :
    ev.wearCeiling i = (ev.record i .wearLimit).modCrusher i (fun c => { c with wearBlock := true }) := by
  simp [Ev.wearCeiling, Ev.masked, h, Ev.crusher]

end

/-! ### The entry to BLOCKED at the ceiling -/

/-- Nothing but feeders, and at slot `i` kinds that join the condition set: what a line change makes of a crusher's slot. -/
structure KeepsCrusher (i : SlotId) (s u : State) : Prop where
  crusher : (u.slots.get i).crusher = (s.slots.get i).crusher
  conds : ∀ k, (s.slots.get i).conds.mem k = true → (u.slots.get i).conds.mem k = true

theorem KeepsCrusher.refl (i : SlotId) (s : State) : KeepsCrusher i s s := ⟨rfl, fun _ h => h⟩

theorem KeepsCrusher.trans {i : SlotId} {s u v : State} (h : KeepsCrusher i s u) (h' : KeepsCrusher i u v) : KeepsCrusher i s v :=
  ⟨h'.crusher.trans h.crusher, fun k hk => h'.conds k (h.conds k hk)⟩

theorem KeepsCrusher.modSlot {i : SlotId} (s : State) (j : SlotId) {f : Slot → Slot} (hc : ∀ x, (f x).crusher = x.crusher)
    (hs : ∀ x k, x.conds.mem k = true → (f x).conds.mem k = true) : KeepsCrusher i s (s.modSlot j f) := by
  by_cases hj : i = j
  · subst hj; exact ⟨by simp [hc], fun k hk => by simpa using hs _ k hk⟩
  · constructor <;> simp [hj]

theorem mem_insert_of_mem {s : CondSet} {k : Cond} (c : Cond) (h : s.mem k = true) : (s.insert c).mem k = true := by
  simp only [CondSet.mem, CondSet.insert] at h ⊢; simp [h]

section
variable (i : SlotId) (ev : Ev)

theorem keeps_slots {s u : State} (h : u.slots = s.slots) : KeepsCrusher i s u := ⟨by rw [h], fun _ hk => by rw [h]; exact hk⟩

theorem keeps_record (j : SlotId) (k : Cond) : KeepsCrusher i ev.s (ev.record j k).s := by
  rw [Ev.record_s]; split
  · exact .refl ..
  · exact .modSlot ev.s j (fun _ => rfl) (fun _ _ => mem_insert_of_mem k)

theorem keeps_raise (j : SlotId) (r : Inhibit) : KeepsCrusher i ev.s (ev.raise j r).s := by
  rw [Ev.raise_s]; split
  · exact .refl ..
  · exact .modSlot ev.s j (fun _ => rfl) (fun _ _ h => h)

theorem keeps_modFeeder (j : SlotId) (f : Feeder → Feeder) : KeepsCrusher i ev.s (ev.modFeeder j f).s :=
  .modSlot (f := fun x => { x with feeder := f x.feeder }) ev.s j (fun _ => rfl) (fun _ _ h => h)

theorem keeps_writeRate (j : SlotId) (rb : Nat) (mode : RegMode) (ls : Nat) : KeepsCrusher i ev.s (ev.writeRate j rb mode ls).s := by
  unfold Ev.writeRate
  dsimp only
  have hfeed := keeps_modFeeder i ev j (fun f => { f with
    rb := clampNat (ev.slot j).fp.rMin (ev.slot j).fp.rMax rb, mode := mode, ls := ls,
    seed := f.seed || (f.mode == .fixed && mode == .level) })
  split <;> split
  · exact hfeed
  · exact hfeed.trans (keeps_record i _ j _)
  · exact hfeed.trans (keeps_slots i rfl)
  · exact (hfeed.trans (keeps_record i _ j _)).trans (keeps_slots i rfl)

theorem keeps_applyFeedItem (it : Item) : KeepsCrusher i ev.s (ev.applyFeedItem it).s := by
  unfold Ev.applyFeedItem
  split
  · exact .refl ..
  · split
    · exact keeps_slots i rfl
    · next rb mode ls _ _ _ =>
      refine (keeps_writeRate i ev it.slot rb mode ls).trans ?_
      dsimp only
      split <;> exact keeps_slots i rfl

/-- Events in turn, each of which keeps the crusher. -/
theorem keeps_foldl {α : Type} {f : Ev → α → Ev} (hf : ∀ ev x, KeepsCrusher i ev.s (f ev x).s) (xs : List α) :
    ∀ ev : Ev, KeepsCrusher i ev.s (xs.foldl f ev).s := by
  induction xs with
  | nil => exact fun ev => .refl ..
  | cons x xs ih => exact fun ev => (hf ev x).trans (ih (f ev x))

theorem keeps_waveThree : KeepsCrusher i ev.s ev.waveThree.s := by
  unfold Ev.waveThree
  split
  · exact .refl ..
  · refine KeepsCrusher.trans (u := (ev.onChange (fun c => { c with wave := 3 })).s) (keeps_slots i rfl) ?_
    exact keeps_foldl i (fun ev x => keeps_applyFeedItem i ev x) _ _

theorem keeps_concludeChange : KeepsCrusher i ev.s ev.concludeChange.s := by
  unfold Ev.concludeChange
  split
  · exact .refl ..
  · exact keeps_slots i (by simp)

/-- What a line change makes of the end of an item (R144, R145, R147). -/
theorem keeps_changeItemEnd (id : Option Nat) (j : SlotId) (st : ItemState) (why : Reason) :
    KeepsCrusher i ev.s (ev.changeItemEnd id j st why).s := by
  have hadvance : ∀ ev : Ev, KeepsCrusher i ev.s ev.advanceChange.s := by
    intro ev
    unfold Ev.advanceChange
    split
    · exact .refl ..
    · split
      · exact (keeps_waveThree i ev).trans (keeps_concludeChange i _)
      · exact .refl ..
  unfold Ev.changeItemEnd
  split
  · split
    · exact KeepsCrusher.trans (u := (ev.setItem j st why).s) (keeps_slots i rfl) (hadvance _)
    · exact .refl ..
  · exact .refl ..

@[simp] theorem entryFinal_s (e : Entry) (d : Disposition) (why : Reason) (b : ReplyBody) : (ev.entryFinal i e d why b).s = ev.s := by
  unfold Ev.entryFinal; split <;> simp

@[simp] theorem announceDiscard_s (why : Reason) (e : Entry) : (ev.announceDiscard i why e).s = ev.s := by
  simp [Ev.announceDiscard, Ev.moveEndNotice]

theorem keeps_endEntry (j : SlotId) (why : Reason) (e : Entry) : KeepsCrusher i ev.s (ev.endEntry j why e).s :=
  (keeps_slots i (by simp)).trans (keeps_changeItemEnd i (ev.announceDiscard j why e) e.changeId j _ why)

/-- The queue is empty once every entry is discarded, whatever becomes of a line change (R52). -/
theorem keeps_discardAll (why : Reason) :
    KeepsCrusher i (ev.modCrusher i (fun c => { c with queue := [] })).s (ev.discardAll i why).s := by
  have hdrop : ev.dropEntries i (fun _ => true) = ev.modCrusher i (fun c => { c with queue := [] }) := by
    simp [Ev.dropEntries]
  unfold Ev.discardAll Ev.discardWhere
  rw [hdrop]
  exact keeps_foldl i (fun ev e => keeps_endEntry i ev i why e) _ _

/-- The crusher at the entry to BLOCKED at the wear ceiling: no timer runs and no entry waits (R52). -/
theorem keeps_enterBlocked : KeepsCrusher i (ev.modCrusher i (fun c =>
    { c.stopMoveTimers with motion := .blocked .wearLimit, queue := [] })).s (ev.enterBlocked i .wearLimit).s := by
  have hstopped : KeepsCrusher i (ev.modCrusher i (fun c =>
        { c.stopMoveTimers with motion := .blocked .wearLimit, queue := [] })).s
      (((ev.stopMotion i).setMotion i (.blocked .wearLimit)).modCrusher i (fun c => { c with queue := [] })).s := by
    constructor <;> simp [Ev.stopMotion, Ev.setMotion, Ev.holdDrive, Slot.command, Crusher.stopMoveTimers]
  refine (hstopped.trans (keeps_discardAll i _ .blocked)).trans ?_
  show KeepsCrusher i _ (Ev.raiseLinked _ i .calibrate).s
  unfold Ev.raiseLinked
  split
  · exact keeps_raise i _ _ _
  · exact .refl ..

/-- The crusher at the entry to BLOCKED, as a slot has it. -/
theorem crusher_enterBlocked : ((ev.enterBlocked i .wearLimit).slot i).crusher =
    { (ev.slot i).crusher.stopMoveTimers with motion := .blocked .wearLimit, queue := [] } := by
  have h := (keeps_enterBlocked i ev).crusher
  rw [Ev.modCrusher_s, State.modSlot_slot_self] at h
  exact h

theorem conds_enterBlocked {k : Cond} (h : (ev.slot i).conds.mem k = true) : ((ev.enterBlocked i .wearLimit).slot i).conds.mem k = true :=
  (keeps_enterBlocked i ev).conds k (by simpa [Ev.slot] using h)

end

theorem mem_raise (f : Feeder) (r : Inhibit) : (f.raise r).inhibits.mem r = true := by
  unfold Feeder.raise; split <;> simp

/-- A reason raised on the feeder linked to a slot stands there (R6, R108). -/
theorem onLinked_raiseLinked (ev : Ev) (i : SlotId) (r : Inhibit) :
    OnLinked (ev.raiseLinked i r).s i (fun f => f.inhibits.mem r = true) := by
  intro f hf
  have hcp := congrArg Slot.cp ((worked_raiseLinked ev i r).slot i).frame
  rw [hcp] at hf
  have hf' : (ev.slot i).cp.linkedFeeder = some f := hf
  have hraise : ev.raiseLinked i r = ev.raise f r := by simp only [Ev.raiseLinked, hf']
  rw [hraise, Ev.raise_s]
  split
  · assumption
  · rw [State.modSlot_slot_self]; exact mem_raise _ r

/-- A reason lowered on the feeder linked to a slot does not stand there. -/
theorem onLinked_lowerLinked (ev : Ev) (i : SlotId) (r : Inhibit) :
    OnLinked (ev.lowerLinked i r).s i (fun f => f.inhibits.mem r = false) := by
  intro f hf
  have hcp := congrArg Slot.cp ((worked_lowerLinked ev i r).slot i).frame
  rw [hcp] at hf
  have hf' : (ev.slot i).cp.linkedFeeder = some f := hf
  have hlower : ev.lowerLinked i r = ev.lower f r := by simp only [Ev.lowerLinked, hf']
  rw [hlower, Ev.lower_s]
  split
  · rw [State.modSlot_slot_self]; exact Inhibits.mem_put_self ..
  · next h => exact (Bool.not_eq_true _).mp h

theorem onLinked_commit (ev : Ev) (i : SlotId) (p : Feeder → Prop) : OnLinked ev.commit i p ↔ OnLinked ev.s i p := by
  simp only [OnLinked, Ev.commit_slots]

/-- At a part without a line change, the discard of a queue changes nothing but that queue (R39). -/
theorem discardAll_s {ev : Ev} (i : SlotId) (why : Reason) (h : ev.s.change = none) :
    (ev.discardAll i why).s = (ev.modCrusher i (fun c => { c with queue := [] })).s := by
  have hend : ∀ (ev : Ev) (e : Entry), ev.s.change = none → (ev.endEntry i why e).s = ev.s := by
    intro ev e h
    have h' : (ev.announceDiscard i why e).s.change = none := by simpa using h
    simp [Ev.endEntry, Ev.changeItemEnd, h]
  have hall : ∀ (es : List Entry) (ev : Ev), ev.s.change = none → (es.foldl (fun ev e => ev.endEntry i why e) ev).s = ev.s := by
    intro es
    induction es with
    | nil => exact fun ev _ => rfl
    | cons e es ih => exact fun ev h => (ih _ (by rw [hend ev e h]; exact h)).trans (hend ev e h)
  have hdrop : ev.dropEntries i (fun _ => true) = ev.modCrusher i (fun c => { c with queue := [] }) := by simp [Ev.dropEntries]
  unfold Ev.discardAll Ev.discardWhere
  rw [hdrop]
  exact hall _ _ h

/-- At a part without a line change, the entry to BLOCKED is work at the crusher alone (R52). -/
theorem worked_enterBlocked {ev : Ev} {i : SlotId} (h : ev.s.change = none) :
    Worked i (ev.slot i).cp.linkedFeeder ev.s (ev.enterBlocked i .wearLimit).s := by
  have hstopped : Worked i (ev.slot i).cp.linkedFeeder ev.s (((ev.stopMotion i).setMotion i (.blocked .wearLimit)).discardAll i .blocked).s := by
    rw [discardAll_s (ev := (ev.stopMotion i).setMotion i (.blocked .wearLimit)) i .blocked h]
    exact ((worked_stopMotion ev i).trans (worked_modCrusher _ i _)).trans (worked_modCrusher _ i _)
  have hraise := worked_raiseLinked (((ev.stopMotion i).setMotion i (.blocked .wearLimit)).discardAll i .blocked) i .calibrate
  have hcp : ((((ev.stopMotion i).setMotion i (.blocked .wearLimit)).discardAll i .blocked).slot i).cp = (ev.slot i).cp :=
    hstopped.cp i
  rw [hcp] at hraise
  exact hstopped.trans hraise

/-! ### The tonnage pulse (R80, R166) -/

/-- The crusher once an accepted edge has counted its tonne and moved the accumulator on. -/
def counted (x : Slot) (c : Crusher) : Crusher :=
  let sum := x.crusher.acc + x.cp.wearRate
  { c with tonnes := if c.tonnes + 1 ≤ 16777215 then c.tonnes + 1 else 16777215, acc := if sum ≥ 65536 then sum - 65536 else sum }

/-- The event of an accepted edge, up to its carry. -/
def pulsed (s : State) (i : SlotId) : Ev :=
  ((Ev.of s).modSlot i (fun x => { x with lastEdge := some s.clock })).modCrusher i (counted (s.slots.get i))

theorem exec_edge_dropped {s : State} {i : SlotId} {last : Nat} (hlast : (s.slots.get i).lastEdge = some last)
    (hsoon : s.clock < last + 100) : exec (.tonnageEdge i) s = .next s := by
  have : ¬ last + Config.edgeMs ≤ s.clock := by unfold Config.edgeMs; omega
  show execTonnageEdge i s = _
  simp [execTonnageEdge, Slot.edgeAccepted, hlast, this]

theorem exec_edge_accepted {s : State} {i : SlotId} (hrun : s.phase = .running) (hkind : (s.slots.get i).kind.isCrusher = true)
    (hlast : ∀ last, (s.slots.get i).lastEdge = some last → last + 100 ≤ s.clock) :
    exec (.tonnageEdge i) s = .next (if (s.slots.get i).crusher.acc + (s.slots.get i).cp.wearRate ≥ 65536
      then ((pulsed s i).wearCarry i).commit else (pulsed s i).commit) := by
  have haccept : (s.slots.get i).edgeAccepted s.clock = true := by
    unfold Slot.edgeAccepted
    split
    · rfl
    · next t ht => exact decide_eq_true (hlast t ht)
  have htonnes : ∀ n : Nat, min n 16777215 = if n ≤ 16777215 then n else 16777215 := fun n => Nat.min_def
  have hexec : exec (.tonnageEdge i) s =
      .next (((Ev.of s).modSlot i (fun x => { x with lastEdge := some s.clock })).tonnagePulse i).commit := by
    show execTonnageEdge i s = _
    rw [execTonnageEdge, if_pos (by rw [hkind, haccept]; rfl), whenRunning, if_pos hrun]; rfl
  rw [hexec, Ev.tonnagePulse]
  simp only [htonnes, slot_modSlot, slot_of]
  rw [apply_ite Ev.commit]
  rfl

/-! ### The carry (R80) -/

/-- The event once a carry has raised W. -/
def worn (ev : Ev) (i : SlotId) : Ev := (ev.modCrusher i (fun c => { c with w := c.w + 1 })).markDirty (.wear i)

section
variable {ev : Ev} {i : SlotId}

theorem wearCarry_below (h : (ev.slot i).crusher.w + 1 < (ev.slot i).cp.wearMax) : ev.wearCarry i = (worn ev i).evaluateTrim i := by
  have h1 : (ev.slot i).crusher.w < (ev.slot i).cp.wearMax := by omega
  have h2 : (ev.slot i).crusher.w + 1 ≠ (ev.slot i).cp.wearMax := by omega
  simp [Ev.wearCarry, h1, h2, Ev.crusher, worn]

theorem wearCarry_reaches (h : (ev.slot i).crusher.w + 1 = (ev.slot i).cp.wearMax) :
    ev.wearCarry i = ((worn ev i).wearCeiling i).evaluateTrim i := by
  have h1 : (ev.slot i).crusher.w < (ev.slot i).cp.wearMax := by omega
  simp [Ev.wearCarry, h1, h, Ev.crusher, worn]

theorem wearCarry_above (h : (ev.slot i).cp.wearMax ≤ (ev.slot i).crusher.w) : ev.wearCarry i = ev.wearCeiling i :=
  if_neg (by omega)

end

/-! ### The ceiling at an edge (R52, R81) -/

section
variable {ev : Ev} {i : SlotId}

theorem trimDue_record (k : Cond) : (ev.record i k).trimDue i = ev.trimDue i := by
  have hs := (worked_record (l := none) ev i k).rest
  simp only [Ev.trimDue, slot_record]
  rw [hs]
  rfl

/-- Unmasked, the ceiling leaves no slot IDLE (R81). -/
theorem wearCeiling_motion (h : (ev.slot i).mask.mem .wearLimit = false) : ((ev.wearCeiling i).slot i).crusher.motion ≠ .idle := by
  by_cases hidle : (ev.slot i).crusher.motion = .idle
  · rw [wearCeiling_idle h hidle, crusher_enterBlocked]
    simp
  · by_cases hblocked : (ev.slot i).crusher.motion = .blocked .wearLimit
    · rw [wearCeiling_blocked h hblocked, slot_record]; exact hidle
    · rw [wearCeiling_busy h hidle hblocked]; simpa using hidle

theorem wearCeiling_conds : ((ev.wearCeiling i).slot i).conds.mem .wearLimit = true := by
  have hrecord : ((ev.record i .wearLimit).slot i).conds.mem .wearLimit = true := by simp
  cases hmask : (ev.slot i).mask.mem .wearLimit with
  | true => rw [wearCeiling_masked hmask]; exact hrecord
  | false =>
    by_cases hidle : (ev.slot i).crusher.motion = .idle
    · rw [wearCeiling_idle hmask hidle]
      exact conds_enterBlocked i _ hrecord
    · by_cases hblocked : (ev.slot i).crusher.motion = .blocked .wearLimit
      · rw [wearCeiling_blocked hmask hblocked]; exact hrecord
      · rw [wearCeiling_busy hmask hidle hblocked, slot_modCrusher]; exact hrecord

/-- At a part without a line change, the ceiling is work at the crusher alone. -/
theorem worked_wearCeiling (h : ev.s.change = none) : Worked i (ev.slot i).cp.linkedFeeder ev.s (ev.wearCeiling i).s := by
  have hrecord := worked_record (l := (ev.slot i).cp.linkedFeeder) ev i .wearLimit
  cases hmask : (ev.slot i).mask.mem .wearLimit with
  | true => rw [wearCeiling_masked hmask]; exact hrecord
  | false =>
    by_cases hidle : (ev.slot i).crusher.motion = .idle
    · rw [wearCeiling_idle hmask hidle]
      have hchange : (ev.record i .wearLimit).s.change = none := by rw [hrecord.rest]; exact h
      have hblock := worked_enterBlocked (i := i) hchange
      rw [slot_record] at hblock
      exact hrecord.trans hblock
    · by_cases hblocked : (ev.slot i).crusher.motion = .blocked .wearLimit
      · rw [wearCeiling_blocked hmask hblocked]; exact hrecord
      · rw [wearCeiling_busy hmask hidle hblocked]; exact hrecord.trans (worked_modCrusher _ i _)

/-- What the ceiling makes of the crusher (R81). -/
theorem wearCeiling_crusher :
    let c := (ev.slot i).crusher
    let c' := ((ev.wearCeiling i).slot i).crusher
    c'.w = c.w
      ∧ ((ev.slot i).mask.mem .wearLimit = true → c' = c)
      ∧ ((ev.slot i).mask.mem .wearLimit = false →
        (c.motion = .idle → c'.motion = .blocked .wearLimit ∧ c'.queue = []
            ∧ OnLinked (ev.wearCeiling i).s i (fun f => f.inhibits.calibrate = true))
          ∧ (c.motion = .blocked .wearLimit → c' = c)
          ∧ (c.motion ≠ .idle → c.motion ≠ .blocked .wearLimit → c' = { c with wearBlock := true })) := by
  intro c c'
  cases hmask : (ev.slot i).mask.mem .wearLimit with
  | true =>
    have hc : c' = c := by simp only [c', c, wearCeiling_masked hmask, slot_record]
    exact ⟨by rw [hc], fun _ => hc, fun h => absurd h (by simp)⟩
  | false =>
    by_cases hidle : (ev.slot i).crusher.motion = .idle
    · have hceiling := wearCeiling_idle hmask hidle
      have hc : c' = { c.stopMoveTimers with motion := .blocked .wearLimit, queue := [] } := by
        simp only [c', c, hceiling, crusher_enterBlocked, slot_record]
      have hlinked : OnLinked (ev.wearCeiling i).s i (fun f => f.inhibits.calibrate = true) := by
        rw [hceiling]; exact onLinked_raiseLinked _ i .calibrate
      have hfree : c.motion ≠ .blocked .wearLimit := by rw [hidle]; simp
      exact ⟨by rw [hc]; rfl, fun h => absurd h (by simp), fun _ =>
        ⟨fun _ => ⟨by rw [hc], by rw [hc], hlinked⟩, fun h => absurd h hfree, fun h => absurd hidle h⟩⟩
    · by_cases hblocked : (ev.slot i).crusher.motion = .blocked .wearLimit
      · have hc : c' = c := by simp only [c', c, wearCeiling_blocked hmask hblocked, slot_record]
        exact ⟨by rw [hc], fun _ => hc, fun _ => ⟨fun h => absurd h hidle, fun _ => hc, fun _ h => absurd hblocked h⟩⟩
      · have hc : c' = { c with wearBlock := true } := by
          simp only [c', c, wearCeiling_busy hmask hidle hblocked, slot_modCrusher, slot_record]
        exact ⟨by rw [hc], fun h => absurd h (by simp), fun _ => ⟨fun h => absurd h hidle, fun h => absurd h hblocked, fun _ _ => hc⟩⟩

/-- The event at which a carry meets the ceiling: W has risen by 1, but for a W that is there already. -/
def atCeiling (ev : Ev) (i : SlotId) : Ev := if (ev.slot i).crusher.w < (ev.slot i).cp.wearMax then worn ev i else ev

/-- A carry that meets the ceiling and creates no TRIM. -/
theorem wearCarry_ceiling (hmax : (ev.slot i).cp.wearMax ≤ (ev.slot i).crusher.w + 1)
    (h : ¬ (worn ev i).trimDue i = true ∨ (ev.slot i).mask.mem .wearLimit = false ∨ (ev.slot i).cp.wearMax ≤ (ev.slot i).crusher.w) :
    ev.wearCarry i = (atCeiling ev i).wearCeiling i := by
  unfold atCeiling
  split
  next hlt =>
    rw [wearCarry_reaches (by omega)]
    have hmask' : ((worn ev i).slot i).mask = (ev.slot i).mask := by simp [worn]
    cases hmask : (ev.slot i).mask.mem .wearLimit with
    | false => exact evaluateTrim_busy (wearCeiling_motion (by rw [hmask']; exact hmask))
    | true =>
      have hdue : ¬ (worn ev i).trimDue i = true := by
        rcases h with h | h | h
        · exact h
        · rw [hmask] at h; cases h
        · omega
      exact evaluateTrim_not_due (by rw [wearCeiling_masked (by rw [hmask']; exact hmask), trimDue_record]; exact hdue)
  next hlt => exact wearCarry_above (by omega)

end
/-! ### The outcomes of an accepted edge -/

/-- The part once the time of an edge is noted, at an edge that is accepted. -/
abbrev edgeNoted (s : State) (i : SlotId) : State := s.modSlot i (fun x => { x with lastEdge := some s.clock })

/-- When the increment of W at an edge creates a TRIM (R59). -/
abbrev TrimsAt (s : State) (i : SlotId) : Prop :=
  let x := s.slots.get i
  x.kind = .cone ∧ x.cp.autoTrim = true ∧ x.crusher.wAtMove + x.cp.trimStep ≤ x.crusher.w + 1 ∧ x.crusher.motion = .idle
    ∧ x.crusher.queue = [] ∧ Unbarred s i

section
variable {s : State} {i : SlotId}

theorem slot_pulsed : (pulsed s i).slot i =
    { s.slots.get i with lastEdge := some s.clock, crusher := counted (s.slots.get i) (s.slots.get i).crusher } := by
  simp [pulsed]

theorem worked_pulsed : Worked i l (edgeNoted s i) (pulsed s i).s :=
  worked_modCrusher ((Ev.of s).modSlot i (fun x => { x with lastEdge := some s.clock })) i _

theorem worked_worn (ev : Ev) : Worked i l ev.s (worn ev i).s := (worked_modCrusher ev i _).trans (worked_markDirty _ i _)

theorem slot_worn (ev : Ev) : (worn ev i).slot i = { ev.slot i with crusher := { (ev.slot i).crusher with w := (ev.slot i).crusher.w + 1 } } := by
  simp [worn]

theorem trimDue_worn : (worn (pulsed s i) i).trimDue i = true ↔ TrimsAt s i := by
  have hheld : (worn (pulsed s i) i).s.held i = s.held i := rfl
  have hstop : (worn (pulsed s i) i).s.lineStop = s.lineStop := rfl
  have hslot : (worn (pulsed s i) i).s.slots.get i = _ := (slot_worn (pulsed s i)).trans (by rw [slot_pulsed])
  refine (trimDue_iff _ i).trans ?_
  simp only [slot_worn, slot_pulsed, counted, TrimsAt, Unbarred, hheld, hstop, hslot]

/-- A sum below a carry: the tonne and the accumulator, and nothing else. -/
theorem pulsed_commit : (pulsed s i).commit = s.modSlot i (fun x =>
    { x with lastEdge := some s.clock, crusher := counted (s.slots.get i) x.crusher }) := by
  rw [Ev.commit_silent _ rfl rfl]
  simp [pulsed]

/-- A carry that raises W and creates no TRIM. -/
theorem worn_commit : (worn (pulsed s i) i).commit = { s.modSlot i (fun x =>
      { x with lastEdge := some s.clock, crusher := { counted (s.slots.get i) x.crusher with w := (s.slots.get i).crusher.w + 1 } }) with
    dirty := s.dirty ||| BitVec.twoPow 33 (RecId.wear i).number } := by
  rw [Ev.commit_silent _ rfl rfl]
  simp [worn, pulsed, Ev.markDirty, State.modSlot, counted]

/-- The event at which a carry that brings W no higher than the ceiling creates a TRIM: at the ceiling its condition is recorded. -/
def atTrim (ev : Ev) (i : SlotId) : Ev :=
  if (ev.slot i).crusher.w + 1 = (ev.slot i).cp.wearMax then (worn ev i).record i .wearLimit else worn ev i

theorem slot_atTrim (ev : Ev) : (atTrim ev i).slot i = { ev.slot i with
    crusher := { (ev.slot i).crusher with w := (ev.slot i).crusher.w + 1 }
    conds := if (ev.slot i).crusher.w + 1 = (ev.slot i).cp.wearMax then (ev.slot i).conds.insert .wearLimit else (ev.slot i).conds } := by
  unfold atTrim; split <;> simp [slot_worn]

theorem worked_atTrim (ev : Ev) : Worked i l (worn ev i).s (atTrim ev i).s := by
  unfold atTrim; split
  · exact worked_record _ i _
  · exact .refl ..

theorem trimDue_atTrim (ev : Ev) : (atTrim ev i).trimDue i = (worn ev i).trimDue i := by
  unfold atTrim; split
  · exact trimDue_record _
  · rfl

theorem now_atTrim (ev : Ev) : (atTrim ev i).now = ev.now := by
  unfold atTrim; split
  · rw [now_record]; rfl
  · rfl

theorem FewNotices.atTrim {ev : Ev} (h : FewNotices 0 ev) : FewNotices 1 (atTrim ev i) := by
  have hworn : FewNotices 0 (worn ev i) := ⟨h.few, h.offered⟩
  unfold Proofs.atTrim; split
  · exact hworn.record i _
  · exact hworn.mono (Nat.zero_le 1)

theorem wearCarry_trims {ev : Ev} (hdue : (worn ev i).trimDue i = true) (hblock : (ev.slot i).crusher.wearBlock = false)
    (hlt : (ev.slot i).crusher.w < (ev.slot i).cp.wearMax)
    (hmet : (ev.slot i).crusher.w + 1 < (ev.slot i).cp.wearMax ∨ (ev.slot i).mask.mem .wearLimit = true) :
    ev.wearCarry i = ((trimHead (atTrim ev i) i).aim i ((atTrim ev i).slot i).crusher.tf).1 := by
  have hcarry : ev.wearCarry i = (atTrim ev i).evaluateTrim i := by
    unfold atTrim
    split
    next hreach =>
      have hmask : (ev.slot i).mask.mem .wearLimit = true := hmet.resolve_left (by omega)
      rw [wearCarry_reaches hreach, wearCeiling_masked (by rw [slot_worn]; exact hmask)]
    next hreach => exact wearCarry_below (by omega)
  rw [hcarry]
  exact evaluateTrim_due (by rw [trimDue_atTrim]; exact hdue) (by rw [slot_atTrim]; exact hblock)

/-- The part at the creation of a TRIM by an edge. -/
abbrev trimPart (s : State) (i : SlotId) : State := (edgeNoted s i).modSlot i (fun x => { x with
  crusher := { counted (s.slots.get i) x.crusher with w := (s.slots.get i).crusher.w + 1 }
  conds := if (s.slots.get i).crusher.w + 1 = x.cp.wearMax then x.conds.insert .wearLimit else x.conds })

/-- An edge that raises W to the trigger, at a cone where a TRIM may be created. -/
theorem edge_trims (hrun : s.phase = .running) (htrims : TrimsAt s i) (hblock : (s.slots.get i).crusher.wearBlock = false)
    (hlt : (s.slots.get i).crusher.w < (s.slots.get i).cp.wearMax)
    (hmet : (s.slots.get i).crusher.w + 1 < (s.slots.get i).cp.wearMax ∨ (s.slots.get i).mask.mem .wearLimit = true) :
    let t := ((pulsed s i).wearCarry i).commit
    TrimRuns (trimPart s i) t i ∧ OnlyCrusher (edgeNoted s i) t i ∧ t.isDirty (.wear i) = true := by
  have hslot := slot_pulsed (s := s) (i := i)
  have hdue : (atTrim (pulsed s i) i).trimDue i = true := by rw [trimDue_atTrim, trimDue_worn.2 htrims]
  have hblock' : ((atTrim (pulsed s i) i).slot i).crusher.wearBlock = false := by rw [slot_atTrim, hslot]; exact hblock
  have hnoted := worked_atTrim (l := (s.slots.get i).cp.linkedFeeder) (i := i) (pulsed s i)
  have htrim := (startCheck_addTrim (l := (s.slots.get i).cp.linkedFeeder) hdue hblock' 0).2
  have hwork := (worked_pulsed.trans ((worked_worn _).trans hnoted)).trans htrim
  rw [wearCarry_trims (trimDue_worn.2 htrims) (by rw [hslot]; exact hblock) (by rw [hslot]; exact hlt) (by rw [hslot]; exact hmet)]
  refine ⟨trimRuns_aim hdue ?_ (FewNotices.atTrim ⟨Nat.le_refl 0, fun n hn => absurd hn (by simp [pulsed])⟩) ?_ ?_, ?_, ?_⟩
  · exact ((worked_worn (l := none) _).trans (worked_atTrim _)).phase.trans hrun
  · have hclock : (atTrim (pulsed s i) i).s.clock = s.clock := now_atTrim _
    conv_lhs => rw [(worked_pulsed.trans ((worked_worn _).trans hnoted)).rest, hclock]
    rfl
  · refine ⟨(s.slots.get i).feeder, ?_⟩
    rw [slot_atTrim, hslot]
    simp [trimPart, counted]
  · exact onlyCrusher_commit (by simpa using hwork)
  · have hdirty := (hnoted.trans htrim).dirty _ (isDirty_markDirty _ (.wear i))
    rw [State.isDirty, Ev.commit_dirty]; exact hdirty

theorem slot_atCeiling (ev : Ev) : (atCeiling ev i).slot i = { ev.slot i with crusher := { (ev.slot i).crusher with
    w := if (ev.slot i).crusher.w < (ev.slot i).cp.wearMax then (ev.slot i).crusher.w + 1 else (ev.slot i).crusher.w } } := by
  unfold atCeiling; split
  · exact slot_worn ev
  · rfl

theorem worked_atCeiling (ev : Ev) : Worked i l ev.s (atCeiling ev i).s := by
  unfold atCeiling; split
  · exact worked_worn ev
  · exact .refl ..

/-- An edge whose carry meets the ceiling is work at the crusher alone, where no line change stands. -/
theorem edge_ceiling_only (h : s.change = none) :
    OnlyCrusher (edgeNoted s i) (((atCeiling (pulsed s i) i).wearCeiling i).commit) i := by
  have hcarried : Worked i (s.slots.get i).cp.linkedFeeder (edgeNoted s i) (atCeiling (pulsed s i) i).s :=
    worked_pulsed.trans (worked_atCeiling _)
  have hceiling := worked_wearCeiling (ev := atCeiling (pulsed s i) i) (i := i) (by rw [hcarried.rest]; exact h)
  rw [slot_atCeiling, slot_pulsed] at hceiling
  exact onlyCrusher_commit (by simpa using hcarried.trans hceiling)

end

/-! ### The release of a lockout (R41, R54, R59) -/

section
variable {ev : Ev} {i : SlotId}

theorem lowerLinked_slot (r : Inhibit) (j : SlotId) : ∃ f, (ev.lowerLinked i r).slot j = { ev.slot j with feeder := f } := by
  unfold Ev.lowerLinked
  split
  · next f _ =>
    by_cases hmem : (ev.feeder f).inhibits.mem r = true
    · have hs := Ev.lower_s ev f r
      rw [if_pos hmem] at hs
      simp only [Ev.slot, hs]
      by_cases hj : j = f
      · subst hj; exact ⟨_, State.modSlot_slot_self ..⟩
      · exact ⟨_, State.modSlot_slot_ne _ _ hj⟩
    · rw [show ev.lower f r = ev from if_neg hmem]; exact ⟨_, rfl⟩
  · exact ⟨_, rfl⟩

theorem lowerLinked_rest (r : Inhibit) : (ev.lowerLinked i r).s = { ev.s with slots := (ev.lowerLinked i r).s.slots } := by
  unfold Ev.lowerLinked
  split
  · rw [Ev.lower_s]; split <;> rfl
  · rfl

/-- The lowering of a reason sends one FEEDER_STATE notice at most (R117). -/
theorem FewNotices.lowerLinked (h : FewNotices 0 ev) (r : Inhibit) : FewNotices 1 (ev.lowerLinked i r) := by
  have hnone : ev.notices = [] := List.eq_nil_of_length_eq_zero (Nat.le_zero.1 h.few)
  unfold Ev.lowerLinked
  split
  · next f _ =>
    unfold Ev.lower
    split
    · refine h.append (n := ⟨ev.s.lineClock, some f, ((ev.modFeeder f (·.lower r)).feeder f).noticeBody (.lowered r)⟩) ?_ (fun _ => rfl)
      simp [Ev.inhibitNotice, hnone, Ev.feederNotice, Ev.notify, State.lineClock]
    · exact h.mono (Nat.zero_le 1)
  · exact h.mono (Nat.zero_le 1)

end

/-- The part once the lockout input of a slot has been released. -/
abbrev freedOf (s : State) (i : SlotId) : State := s.setDiscrete (.lockout i) ⟨false, false, none⟩

section
variable {s : State} {i : SlotId} {d : Nat}

/-- The release of a lockout at an IDLE cone: LOCKOUT is lowered on the linked feeder, and the start check is made (R54). -/
theorem exec_lockout_released (hrun : s.phase = .running) (hkind : (s.slots.get i).kind = .cone)
    (hlockout : (s.slots.get i).lockout = ⟨false, true, some d⟩) (hidle : (s.slots.get i).crusher.motion = .idle) :
    exec (.debounceExpiry (.lockout i)) s = .next (((Ev.of (freedOf (s.reach d) i)).lowerLinked i .lockout).check i).commit := by
  have hexec : exec (.debounceExpiry (.lockout i)) s = .next ((Ev.of (freedOf (s.reach d) i)).discreteEvent (.lockout i) false).commit := by
    show execDebounceExpiry (.lockout i) s = _
    simp only [execDebounceExpiry, State.discrete, hlockout, hrun]
    simp
  obtain ⟨f, hslot⟩ := lowerLinked_slot (ev := Ev.of (freedOf (s.reach d) i)) (i := i) .lockout i
  have hcrusher : (((Ev.of (freedOf (s.reach d) i)).lowerLinked i .lockout).crusher i).motion = .idle := by
    rw [Ev.crusher, hslot]; simpa [freedOf, State.setDiscrete, State.reach] using hidle
  have hkind' : ((Ev.of (freedOf (s.reach d) i)).slot i).kind.isCrusher = true := by
    simp [freedOf, State.setDiscrete, State.reach, hkind, Kind.isCrusher]
  rw [hexec]
  simp only [Ev.discreteEvent, Ev.lockoutReleased, hkind', Ev.crusherUnlock, hcrusher]
  simp

/-- The release of a lockout at a cone where a TRIM is due. -/
theorem released_trims (hrun : s.phase = .running) (hkind : (s.slots.get i).kind = .cone)
    (hidle : (s.slots.get i).crusher.motion = .idle) (hqueue : (s.slots.get i).crusher.queue = [])
    (hblock : (s.slots.get i).crusher.wearBlock = false) (hstop : s.lineStop.state = false) (hheld : s.held i = false)
    (hauto : (s.slots.get i).cp.autoTrim = true)
    (hw : (s.slots.get i).crusher.wAtMove + (s.slots.get i).cp.trimStep ≤ (s.slots.get i).crusher.w) :
    let t := (((Ev.of (freedOf (s.reach d) i)).lowerLinked i .lockout).check i).commit
    TrimRuns (freedOf (s.reach d) i) t i ∧ OnlyCrusher (freedOf s i) t i ∧ OnLinked t i (fun f => f.inhibits.lockout = false) := by
  set ev := (Ev.of (freedOf (s.reach d) i)).lowerLinked i .lockout with hev
  have hfreed : (Ev.of (freedOf (s.reach d) i)).slot i = { s.slots.get i with lockout := ⟨false, false, none⟩ } := by
    simp [freedOf, State.setDiscrete, State.reach]
  have hlower := worked_lowerLinked (Ev.of (freedOf (s.reach d) i)) i .lockout
  rw [hfreed, ← hev] at hlower
  obtain ⟨f, hslot⟩ := lowerLinked_slot (ev := Ev.of (freedOf (s.reach d) i)) (i := i) .lockout i
  rw [← hev] at hslot
  have hdue : ev.trimDue i = true := by
    refine (trimDue_iff ev i).2 ?_
    rw [hslot, hfreed]
    refine ⟨hkind, hauto, hw, hidle, hqueue, ?_, ?_, ?_⟩
    · rw [show ev.s.slots.get i = _ from hslot, hfreed]
    · rw [hlower.rest]; exact hstop
    · rw [State.held, hlower.rest]; exact hheld
  have hblock' : (ev.slot i).crusher.wearBlock = false := by rw [hslot, hfreed]; exact hblock
  have htrim := fun l => (startCheck_addTrim (l := l) hdue hblock' 0).2
  intro t
  have ht : t = ((trimHead ev i).aim i (ev.slot i).crusher.tf).1.commit := by rw [← check_trim_due hdue hblock']
  rw [ht]
  refine ⟨trimRuns_aim hdue ?_ (FewNotices.lowerLinked (FewNotices.of _) _) ?_ ⟨f, hslot⟩, ?_, ?_⟩
  · exact hlower.phase.trans hrun
  · have hrest := lowerLinked_rest (ev := Ev.of (freedOf (s.reach d) i)) (i := i) .lockout
    rw [← hev] at hrest
    have hdirty : ev.s.dirty = (freedOf (s.reach d) i).dirty := by rw [hrest]; rfl
    rw [hdirty]
    conv_lhs => rw [hrest]
    rfl
  · have hclock : Worked i (s.slots.get i).cp.linkedFeeder (freedOf s i) (freedOf (s.reach d) i) :=
      ⟨rfl, fun _ h => h, fun _ => .refl ..⟩
    have hcp : ((freedOf s i).slots.get i).cp = (s.slots.get i).cp := by simp [freedOf, State.setDiscrete]
    exact onlyCrusher_commit (by rw [hcp]; exact (hclock.trans hlower).trans (htrim _))
  · intro g hg
    rw [Ev.commit_slots] at hg ⊢
    rw [(htrim none).cp] at hg
    rw [((htrim none).slot g).unfed (by simp)]
    exact onLinked_lowerLinked _ i .lockout g hg

end

/-! ### The obligation -/

/-- Settles O42: the carry of an accepted edge raises W, meets the ceiling or creates a TRIM, and so does the release of a lockout. -/
theorem tonnageRaisesWear : Obligations.TonnageRaisesWear := by
  refine ⟨?_, ?_⟩
  · intro s i hrun x c sum count trims edge hkind
    refine ⟨fun last hlast hsoon => exec_edge_dropped hlast hsoon, fun haccept => ?_⟩
    have hexec := exec_edge_accepted hrun hkind haccept
    have hslot := slot_pulsed (s := s) (i := i)
    refine ⟨fun hsum => ?_, fun hsum hw hno => ?_, fun hsum hw htrims hblock hmet => ?_, fun hsum hmax hno => ?_⟩
    · rw [hexec, if_neg (Nat.not_le.2 hsum), pulsed_commit]; rfl
    · rw [hexec, if_pos hsum, wearCarry_below (by rw [hslot]; exact hw), evaluateTrim_not_due (fun h => hno (trimDue_worn.1 h)), worn_commit]
      rfl
    · rw [if_pos hsum] at hexec
      obtain ⟨hruns, honly, hdirty⟩ := edge_trims hrun htrims hblock hw hmet
      exact ⟨_, hexec, hruns, honly, hdirty⟩
    · have hcarry := wearCarry_ceiling (ev := pulsed s i) (i := i) (by rw [hslot]; exact hmax)
        (by rw [hslot]; exact hno.imp_left (fun h hdue => h (trimDue_worn.1 hdue)))
      rw [if_pos hsum, hcarry] at hexec
      have hat : (atCeiling (pulsed s i) i).slot i = _ := (slot_atCeiling (pulsed s i)).trans (by rw [hslot])
      obtain ⟨hwear, hmasked, hunmasked⟩ := wearCeiling_crusher (ev := atCeiling (pulsed s i) i) (i := i)
      rw [hat] at hwear hmasked hunmasked
      refine ⟨_, hexec, edge_ceiling_only, ?_⟩
      simp only [Ev.commit_slots, onLinked_commit]
      exact ⟨hwear, fun _ => wearCeiling_conds, hmasked, hunmasked⟩
  · intro s i d hrun x c freed hkind hlockout hidle hqueue hblock hstop hheld hauto hw
    obtain ⟨hruns, honly, hlinked⟩ := released_trims (d := d) hrun hkind hidle hqueue hblock hstop hheld hauto hw
    exact ⟨_, exec_lockout_released hrun hkind hlockout hidle, hruns, honly, hlinked⟩

end Sys2Proof.Proofs
end


section
/-! PROOF. What the work at one crusher makes of an event: the line change unit spares every crusher, and each shared operation of the
motion controller, the calibration tracker and the relief monitor tends one crusher and leaves the rest. -/

namespace Sys2Proof.Proofs

open Sys2Proof Sys2Proof.Machine

-- One proof at a time: the text is checked as one file, whose proofs in parallel would ask for more threads than the check's memory holds.
set_option Elab.async false

/-! ### The bounds a slot keeps -/

/-- A move queue within its places and in priority order (R36). -/
def QueueOk (q : List Entry) : Prop := q.length ≤ 4 ∧ q.Pairwise (fun a b => b.priority = true → a.priority = true)

/-- W within 0..WEAR_MAX and W_at_move within 0..W (R79). -/
def WearOk (x : Slot) : Prop := x.crusher.w ≤ x.cp.wearMax ∧ x.crusher.wAtMove ≤ x.crusher.w

/-- A reference other than 0 stands only with no inhibit reason (R108). -/
def FedOk (f : Feeder) : Prop := f.r ≠ 0 → f.inhibits.isEmpty = true

theorem QueueOk.nil : QueueOk [] := ⟨by simp, .nil⟩

theorem QueueOk.single (e : Entry) : QueueOk [e] := ⟨by simp, List.pairwise_singleton ..⟩

theorem QueueOk.sublist {q q' : List Entry} (h : QueueOk q) (hq : q'.Sublist q) : QueueOk q' :=
  ⟨hq.length_le.trans h.1, h.2.sublist hq⟩

theorem dropNewestOrdinary_sublist (q : List Entry) : (dropNewestOrdinary q).Sublist q := by
  have h := (List.eraseP_sublist (p := fun e : Entry => !e.priority) (l := q.reverse)).reverse
  rwa [List.reverse_reverse] at h

theorem FedOk.raise {f : Feeder} (h : FedOk f) (r : Inhibit) : FedOk (f.raise r) := by
  unfold Feeder.raise
  split
  · exact fun hr => absurd rfl hr
  · next hempty => exact fun hr => absurd (h hr) hempty

theorem FedOk.lower {f : Feeder} (h : FedOk f) (r : Inhibit) : FedOk (f.lower r) := by
  intro hr
  rw [Inhibits.isEmpty_iff]
  intro k
  have hnone := (Inhibits.isEmpty_iff _).1 (h hr)
  by_cases hk : k = r
  · subst hk; exact Inhibits.mem_put_self ..
  · exact (Inhibits.mem_put_ne _ _ hk).trans (hnone k)

theorem FedOk.off {f : Feeder} (h : FedOk f) {r : Inhibit} (hr : f.inhibits.mem r = true) : f.r = 0 := by
  refine Decidable.byContradiction (fun hne => ?_)
  rw [(Inhibits.isEmpty_iff _).1 (h hne) r] at hr
  cases hr

/-! ### Final replies -/

/-- The event has raised some final replies more, and no immediate one (R175). -/
def Finals (ev ev' : Ev) : Prop := ∃ rs, ev'.replies = ev.replies ++ rs ∧ ∀ r ∈ rs, r.immediate = false

theorem Finals.same {ev ev' : Ev} (h : ev'.replies = ev.replies) : Finals ev ev' := ⟨[], by simp [h], by simp⟩

theorem Finals.trans {ev ev' ev'' : Ev} (h : Finals ev ev') (h' : Finals ev' ev'') : Finals ev ev'' := by
  obtain ⟨rs, hrs, hfinal⟩ := h
  obtain ⟨rs', hrs', hfinal'⟩ := h'
  refine ⟨rs ++ rs', by rw [hrs', hrs, List.append_assoc], fun r hr => ?_⟩
  rcases List.mem_append.1 hr with hr | hr
  · exact hfinal r hr
  · exact hfinal' r hr

theorem finals_finalReply (ev : Ev) (p : Port) (ack : Bool) (r : Reply) : Finals ev (ev.finalReply p ack r) := by
  unfold Ev.finalReply
  split
  · exact ⟨[⟨p, false, r⟩], rfl, by simp⟩
  · exact .same rfl

/-! ### The line change unit spares the crushers (chapter 8) -/

/-- What the line change unit makes of an event: condition sets, base rates, dirty marks, the change itself and what is raised. -/
structure Spared (ev ev' : Ev) : Prop where
  rest : ev'.s = { ev.s with slots := ev'.s.slots, dirty := ev'.s.dirty, change := ev'.s.change }
  slot : ∀ j, ev'.slot j = { ev.slot j with
    conds := (ev'.slot j).conds
    feeder := { (ev.slot j).feeder with
      rb := (ev'.slot j).feeder.rb, mode := (ev'.slot j).feeder.mode, ls := (ev'.slot j).feeder.ls, seed := (ev'.slot j).feeder.seed } }
  dirty : ∀ r, ev.s.isDirty r = true → ev'.s.isDirty r = true
  finals : Finals ev ev'
  heard : ev.notices <+: ev'.notices

namespace Spared

variable {ev ev' ev'' : Ev}

theorem refl (ev : Ev) : Spared ev ev := ⟨rfl, fun _ => rfl, fun _ h => h, .same rfl, List.prefix_rfl⟩

theorem trans (h : Spared ev ev') (h' : Spared ev' ev'') : Spared ev ev'' where
  rest := by rw [h'.rest, h.rest]
  slot j := by rw [h'.slot j, h.slot j]
  dirty r hr := h'.dirty r (h.dirty r hr)
  finals := h.finals.trans h'.finals
  heard := h.heard.trans h'.heard

/-- Nothing of the slots changes. -/
theorem slots (hs : ev'.s = { ev.s with dirty := ev'.s.dirty, change := ev'.s.change })
    (hd : ∀ r, ev.s.isDirty r = true → ev'.s.isDirty r = true) (hr : Finals ev ev') (hn : ev.notices <+: ev'.notices) : Spared ev ev' where
  rest := by rw [hs]
  slot j := by
    have hslots : ev'.s.slots = ev.s.slots := by rw [hs]
    simp only [Ev.slot, hslots]
  dirty := hd
  finals := hr
  heard := hn

/-- Nothing of the part changes. -/
theorem quiet (hs : ev'.s = ev.s) (hr : Finals ev ev') (hn : ev.notices <+: ev'.notices) : Spared ev ev' :=
  slots (by rw [hs]) (fun _ h => by rw [hs]; exact h) hr hn

theorem crusher (h : Spared ev ev') (j : SlotId) : ev'.crusher j = ev.crusher j := by
  rw [Ev.crusher, h.slot j]; rfl

theorem driver (h : Spared ev ev') (j : SlotId) : (ev'.slot j).driver = (ev.slot j).driver := by rw [h.slot j]

theorem inhibits (h : Spared ev ev') (j : SlotId) : (ev'.feeder j).inhibits = (ev.feeder j).inhibits := by
  rw [Ev.feeder, h.slot j]; rfl

end Spared

/-- Events in turn, each of which is spared. -/
theorem spared_foldl {α : Type} {f : Ev → α → Ev} (hf : ∀ ev x, Spared ev (f ev x)) (xs : List α) :
    ∀ ev : Ev, Spared ev (xs.foldl f ev) := by
  induction xs with
  | nil => exact fun ev => .refl ev
  | cons x xs ih => exact fun ev => (hf ev x).trans (ih (f ev x))

section
variable (ev : Ev)

theorem spared_notify (i : Option SlotId) (b : NoticeBody) : Spared ev (ev.notify i b) :=
  .quiet rfl (.same rfl) (List.prefix_append ..)

theorem spared_finalReply (p : Port) (ack : Bool) (r : Reply) : Spared ev (ev.finalReply p ack r) :=
  .quiet (by simp) (finals_finalReply ev p ack r) (by simp)

theorem spared_onChange (f : Change → Change) : Spared ev (ev.onChange f) :=
  .slots rfl (fun _ h => h) (.same rfl) List.prefix_rfl

theorem spared_markDirty (r : RecId) : Spared ev (ev.markDirty r) :=
  .slots rfl (fun _ h => getLsbD_or_twoPow _ _ h) (.same rfl) List.prefix_rfl

theorem spared_modSlot (i : SlotId) (f : Slot → Slot)
    (hf : ∀ x, f x = { x with
      conds := (f x).conds
      feeder := { x.feeder with rb := (f x).feeder.rb, mode := (f x).feeder.mode, ls := (f x).feeder.ls, seed := (f x).feeder.seed } }) :
    Spared ev (ev.modSlot i f) where
  rest := rfl
  slot j := by
    simp only [Ev.slot, Ev.modSlot_s]
    by_cases hj : j = i
    · subst hj; rw [State.modSlot_slot_self]; exact hf _
    · rw [State.modSlot_slot_ne _ _ hj]
  dirty _ h := h
  finals := .same rfl
  heard := List.prefix_rfl

theorem spared_record (i : SlotId) (k : Cond) : Spared ev (ev.record i k) := by
  cases hmem : (ev.slot i).conds.mem k with
  | true => rw [record_present hmem]; exact .refl ev
  | false => rw [record_absent hmem]; exact (spared_modSlot ev i _ (fun _ => rfl)).trans (spared_notify ..)

theorem spared_writeRate (i : SlotId) (rb : Nat) (mode : RegMode) (ls : Nat) : Spared ev (ev.writeRate i rb mode ls) := by
  have hset := spared_modSlot ev i (fun x => { x with feeder := { x.feeder with
    rb := clampNat (ev.slot i).fp.rMin (ev.slot i).fp.rMax rb, mode := mode, ls := ls,
    seed := x.feeder.seed || (x.feeder.mode == .fixed && mode == .level) } }) (fun _ => rfl)
  unfold Ev.writeRate
  dsimp only
  split <;> split
  · exact hset
  · exact hset.trans (spared_record ..)
  · exact hset.trans (spared_markDirty ..)
  · exact (hset.trans (spared_record ..)).trans (spared_markDirty ..)

theorem spared_setItem (i : SlotId) (st : ItemState) (r : Reason) : Spared ev (ev.setItem i st r) := spared_onChange ..

theorem spared_applyFeedItem (it : Item) : Spared ev (ev.applyFeedItem it) := by
  unfold Ev.applyFeedItem
  split
  · exact .refl ev
  · split
    · exact spared_onChange ..
    · dsimp only
      split <;> exact ((spared_writeRate ..).trans (spared_onChange ..)).trans (spared_onChange ..)

theorem spared_waveThree : Spared ev ev.waveThree := by
  unfold Ev.waveThree
  split
  · exact .refl ev
  · exact (spared_onChange ..).trans (spared_foldl spared_applyFeedItem _ _)

theorem spared_concludeChange : Spared ev ev.concludeChange := by
  unfold Ev.concludeChange
  split
  · exact .refl ev
  · dsimp only
    exact ((spared_finalReply ..).trans (spared_notify ..)).trans (.slots rfl (fun _ h => h) (.same rfl) List.prefix_rfl)

theorem spared_advanceChange : Spared ev ev.advanceChange := by
  unfold Ev.advanceChange
  split
  · exact .refl ev
  · split
    · exact (spared_waveThree ev).trans (spared_concludeChange _)
    · exact .refl ev

/-- What the line change unit makes of the end of an item (R144, R145, R147). -/
theorem spared_changeItemEnd (id : Option Nat) (i : SlotId) (st : ItemState) (r : Reason) : Spared ev (ev.changeItemEnd id i st r) := by
  unfold Ev.changeItemEnd
  split
  · split
    · exact (spared_setItem ..).trans (spared_advanceChange _)
    · exact .refl ev
  · exact .refl ev

theorem spared_changeHandover (i : SlotId) (p : Port) : Spared ev (ev.changeHandover i p) := by
  unfold Ev.changeHandover
  split
  · split
    · exact (spared_setItem ..).trans (spared_advanceChange _)
    · exact .refl ev
  · exact .refl ev

theorem spared_entryFinal (i : SlotId) (e : Entry) (d : Disposition) (r : Reason) (b : ReplyBody) :
    Spared ev (ev.entryFinal i e d r b) := by
  unfold Ev.entryFinal
  split
  · exact spared_finalReply ..
  · exact .refl ev

theorem spared_announceDiscard (i : SlotId) (r : Reason) (e : Entry) : Spared ev (ev.announceDiscard i r e) :=
  (spared_entryFinal ..).trans (spared_notify ..)

theorem spared_endEntry (i : SlotId) (r : Reason) (e : Entry) : Spared ev (ev.endEntry i r e) :=
  (spared_announceDiscard ..).trans (spared_changeItemEnd ..)

end

/-- With no change there is nothing for the unit to do. -/
theorem changeItemEnd_none {ev : Ev} (h : ev.s.change = none) (id : Option Nat) (i : SlotId) (st : ItemState) (r : Reason) :
    ev.changeItemEnd id i st r = ev := by simp [Ev.changeItemEnd, h]

theorem changeHandover_none {ev : Ev} (h : ev.s.change = none) (i : SlotId) (p : Port) : ev.changeHandover i p = ev := by
  simp [Ev.changeHandover, h]

theorem endEntry_none {ev : Ev} (h : ev.s.change = none) (i : SlotId) (r : Reason) (e : Entry) :
    ev.endEntry i r e = ev.announceDiscard i r e := changeItemEnd_none (by simpa using h) ..

/-! ### What the work at one crusher makes of an event -/

/-- Whatever the work at crusher `i` does to an event, it leaves this: of the part's slots only crushers, drivers, condition sets and
feeders change, of the crushers and drivers only the slot's own, and with no line change standing nothing beyond `Worked`; it raises no
immediate reply; and queues, wear and references keep their bounds. -/
structure Tended (i : SlotId) (ev ev' : Ev) : Prop where
  rest : ev'.s = { ev.s with slots := ev'.s.slots, dirty := ev'.s.dirty, change := ev'.s.change }
  slot : ∀ j, ev'.slot j = { ev.slot j with
    crusher := ev'.crusher j, driver := (ev'.slot j).driver, conds := (ev'.slot j).conds, feeder := ev'.feeder j }
  aside : ∀ j, j ≠ i → ev'.crusher j = ev.crusher j ∧ (ev'.slot j).driver = (ev.slot j).driver
  alone : ev.s.change = none → Worked i (ev.slot i).cp.linkedFeeder ev.s ev'.s
  finals : Finals ev ev'
  queue : ∀ j, QueueOk (ev.crusher j).queue → QueueOk (ev'.crusher j).queue
  wear : ∀ j, WearOk (ev.slot j) → WearOk (ev'.slot j)
  fed : ∀ j, FedOk (ev.feeder j) → FedOk (ev'.feeder j)

namespace Tended

variable {i : SlotId} {ev₀ ev ev' ev'' : Ev}

theorem refl (i : SlotId) (ev : Ev) : Tended i ev ev :=
  ⟨rfl, fun _ => rfl, fun _ _ => ⟨rfl, rfl⟩, fun _ => .refl .., .same rfl, fun _ h => h, fun _ h => h, fun _ h => h⟩

theorem cp (h : Tended i ev ev') (j : SlotId) : (ev'.slot j).cp = (ev.slot j).cp := by rw [h.slot j]

theorem kind (h : Tended i ev ev') (j : SlotId) : (ev'.slot j).kind = (ev.slot j).kind := by rw [h.slot j]

theorem mask (h : Tended i ev ev') (j : SlotId) : (ev'.slot j).mask = (ev.slot j).mask := by rw [h.slot j]

theorem lockout (h : Tended i ev ev') (j : SlotId) : (ev'.slot j).lockout = (ev.slot j).lockout := by rw [h.slot j]

theorem relief (h : Tended i ev ev') (j : SlotId) : (ev'.slot j).relief = (ev.slot j).relief := by rw [h.slot j]

theorem position (h : Tended i ev ev') (j : SlotId) : (ev'.slot j).position = (ev.slot j).position := by rw [h.slot j]

theorem phase (h : Tended i ev ev') : ev'.s.phase = ev.s.phase := by rw [h.rest]

theorem ports (h : Tended i ev ev') : ev'.s.ports = ev.s.ports := by rw [h.rest]

theorem clock (h : Tended i ev ev') : ev'.s.clock = ev.s.clock := by rw [h.rest]

theorem lineStop (h : Tended i ev ev') : ev'.s.lineStop = ev.s.lineStop := by rw [h.rest]

theorem change_none (h : Tended i ev ev') (hc : ev.s.change = none) : ev'.s.change = none := by
  rw [(h.alone hc).rest]; exact hc

theorem trans (h : Tended i ev ev') (h' : Tended i ev' ev'') : Tended i ev ev'' where
  rest := by rw [h'.rest, h.rest]
  slot j := by rw [h'.slot j, h.slot j]
  aside j hj := by
    obtain ⟨hcrusher, hdriver⟩ := h.aside j hj
    obtain ⟨hcrusher', hdriver'⟩ := h'.aside j hj
    exact ⟨hcrusher'.trans hcrusher, hdriver'.trans hdriver⟩
  alone hc := by
    have h2 := h'.alone (h.change_none hc)
    rw [h.cp i] at h2
    exact (h.alone hc).trans h2
  finals := h.finals.trans h'.finals
  queue j hq := h'.queue j (h.queue j hq)
  wear j hw := h'.wear j (h.wear j hw)
  fed j hf := h'.fed j (h.fed j hf)

theorem of_spared (h : Spared ev ev') (hstill : ev.s.change = none → ev'.s = ev.s) : Tended i ev ev' where
  rest := h.rest
  slot j := by
    have hfeeder : ev'.feeder j = (ev'.slot j).feeder := rfl
    conv_lhs => rw [h.slot j]
    rw [h.crusher j, h.driver j, hfeeder]
    conv_rhs => rw [h.slot j]
    rfl
  aside j _ := ⟨h.crusher j, h.driver j⟩
  alone hc := by rw [hstill hc]; exact .refl ..
  finals := h.finals
  queue j hq := by rw [h.crusher j]; exact hq
  wear j hw := by rw [h.slot j]; exact hw
  fed j hf := by
    rw [Ev.feeder, h.slot j]; exact hf

/-- The crusher's own slot changes: its crusher within the bounds, its driver and its condition set. -/
theorem of_own (f : Slot → Slot)
    (hf : ∀ x, f x = { x with crusher := (f x).crusher, driver := (f x).driver, conds := (f x).conds })
    (hq : QueueOk (ev.crusher i).queue → QueueOk (f (ev.slot i)).crusher.queue)
    (hw : WearOk (ev.slot i) → WearOk (f (ev.slot i))) : Tended i ev (ev.modSlot i f) := by
  have hother : ∀ j, j ≠ i → (ev.modSlot i f).slot j = ev.slot j := fun j hj => State.modSlot_slot_ne _ _ hj
  have hframe : ∀ j, (ev.modSlot i f).slot j = { ev.slot j with
      crusher := (ev.modSlot i f).crusher j, driver := ((ev.modSlot i f).slot j).driver,
      conds := ((ev.modSlot i f).slot j).conds, feeder := (ev.modSlot i f).feeder j } := by
    intro j
    by_cases hj : j = i
    · subst hj; simp only [Ev.crusher, Ev.feeder, slot_modSlot]; rw [hf]
    · simp only [Ev.crusher, Ev.feeder, hother j hj]
  refine ⟨rfl, hframe, fun j hj => ?_, fun _ => Worked.own hf, .same rfl, fun j h => ?_, fun j h => ?_, fun j h => ?_⟩
  · simp only [Ev.crusher, hother j hj]; exact ⟨trivial, trivial⟩
  · by_cases hj : j = i
    · subst hj; rw [Ev.crusher, slot_modSlot]; exact hq h
    · rw [Ev.crusher, hother j hj]; exact h
  · by_cases hj : j = i
    · subst hj; rw [slot_modSlot]; exact hw h
    · rw [hother j hj]; exact h
  · by_cases hj : j = i
    · subst hj; rw [Ev.feeder, slot_modSlot, hf]; exact h
    · rw [Ev.feeder, hother j hj]; exact h

/-- Only what is raised changes. -/
theorem of_same (hs : ev'.s = ev.s) (hr : ev'.replies = ev.replies) : Tended i ev ev' := by
  have hslot : ∀ j, ev'.slot j = ev.slot j := fun j => by simp only [Ev.slot, hs]
  refine ⟨by rw [hs], fun j => ?_, fun j _ => ?_, fun _ => by rw [hs]; exact .refl .., .same hr, fun j => ?_, fun j => ?_, fun j => ?_⟩
  all_goals simp only [Ev.crusher, Ev.feeder, hslot]
  · exact ⟨trivial, trivial⟩
  all_goals exact id

/-- The inhibit set and the reference of the linked feeder change. -/
theorem of_linked {f : SlotId} (hl : (ev.slot i).cp.linkedFeeder = some f) (g : Feeder → Feeder)
    (hg : ∀ x, g x = { x with inhibits := (g x).inhibits, r := (g x).r, rPrev := (g x).rPrev, seed := (g x).seed })
    (hfed : ∀ x, FedOk x → FedOk (g x)) : Tended i ev (ev.modFeeder f g) := by
  have hslot : ∀ j, (ev.modFeeder f g).slot j = { ev.slot j with feeder := (ev.modFeeder f g).feeder j } := by
    intro j
    by_cases hj : j = f
    · subst hj; simp [Ev.feeder, Ev.modFeeder]
    · have : (ev.modFeeder f g).slot j = ev.slot j := State.modSlot_slot_ne _ _ hj
      simp only [Ev.feeder, this]
  refine ⟨rfl, fun j => ?_, fun j _ => ?_, fun _ => .feeder hl hg, .same rfl, fun j => ?_, fun j => ?_, fun j hok => ?_⟩
  · rw [Ev.crusher, hslot]
  · rw [Ev.crusher, hslot]; exact ⟨rfl, rfl⟩
  · rw [Ev.crusher, Ev.crusher, hslot]; exact id
  · rw [hslot]; exact id
  · by_cases hj : j = f
    · subst hj; simpa [Ev.feeder, Ev.modFeeder] using hfed _ hok
    · rw [Ev.feeder, show (ev.modFeeder f g).slot j = ev.slot j from State.modSlot_slot_ne _ _ hj]; exact hok

/-! The steps, each behind an event that is tended so far. -/

section
variable (h : Tended i ev₀ ev)
include h

theorem crusherTo (f : Crusher → Crusher) (hq : QueueOk (ev.crusher i).queue → QueueOk (f (ev.crusher i)).queue)
    (hw : (f (ev.crusher i)).w = (ev.crusher i).w ∧ (f (ev.crusher i)).wAtMove = (ev.crusher i).wAtMove
      ∨ (f (ev.crusher i)).wAtMove ≤ (f (ev.crusher i)).w ∧ ((ev.crusher i).w ≤ (ev.slot i).cp.wearMax → (f (ev.crusher i)).w ≤ (ev.slot i).cp.wearMax)) :
    Tended i ev₀ (ev.modCrusher i f) := by
  refine h.trans (of_own _ (fun _ => rfl) hq (fun hok => ?_))
  rcases hw with ⟨hw, hat⟩ | ⟨hat, hw⟩
  · exact ⟨hw.trans_le hok.1, (hat.trans_le hok.2).trans_eq hw.symm⟩
  · exact ⟨hw hok.1, hat⟩

/-- A change of the crusher that leaves its queue and its wear as they are. -/
theorem modCrusher (f : Crusher → Crusher)
    (hf : ∀ c, (f c).queue = c.queue ∧ (f c).w = c.w ∧ (f c).wAtMove = c.wAtMove := by exact fun _ => ⟨rfl, rfl, rfl⟩) :
    Tended i ev₀ (ev.modCrusher i f) :=
  h.crusherTo f (fun hq => by rw [(hf _).1]; exact hq) (.inl (hf _).2)

/-- A change of the crusher that leaves its wear as it is and shortens its queue. -/
theorem dequeue (f : Crusher → Crusher) (hq : (f (ev.crusher i)).queue.Sublist (ev.crusher i).queue)
    (hf : ∀ c, (f c).w = c.w ∧ (f c).wAtMove = c.wAtMove := by exact fun _ => ⟨rfl, rfl⟩) : Tended i ev₀ (ev.modCrusher i f) :=
  h.crusherTo f (fun hok => hok.sublist hq) (.inl (hf _))

theorem setDrive (c : DriveCmd) : Tended i ev₀ (ev.setDrive i c) :=
  h.trans (of_own _ (fun _ => rfl) id id)

theorem holdDrive : Tended i ev₀ (ev.holdDrive i) := h.setDrive _

theorem retestDrive : Tended i ev₀ (ev.retestDrive i) := h.trans (of_own _ (fun _ => rfl) id id)

theorem driveTo (slowly : Bool) (p : Nat) (target : Int) (d : Dir) : Tended i ev₀ (ev.driveTo i slowly p target d) := h.setDrive _

theorem driveGuarded (slowly : Bool) (p : Nat) (target : Int) (d : Dir) : Tended i ev₀ (ev.driveGuarded i slowly p target d) := by
  unfold Ev.driveGuarded
  split
  · exact h.holdDrive
  · exact h.driveTo ..

theorem notify (j : Option SlotId) (b : NoticeBody) : Tended i ev₀ (ev.notify j b) := h.trans (of_spared (spared_notify ..) (fun _ => rfl))

theorem finalReply (p : Port) (ack : Bool) (r : Reply) : Tended i ev₀ (ev.finalReply p ack r) :=
  h.trans (of_spared (spared_finalReply ..) (fun _ => by simp))

theorem entryFinal (j : SlotId) (e : Entry) (d : Disposition) (r : Reason) (b : ReplyBody) : Tended i ev₀ (ev.entryFinal j e d r b) :=
  h.trans (of_spared (spared_entryFinal ..) (fun _ => by simp))

theorem changeItemEnd (id : Option Nat) (j : SlotId) (st : ItemState) (r : Reason) : Tended i ev₀ (ev.changeItemEnd id j st r) :=
  h.trans (of_spared (spared_changeItemEnd ..) (fun hc => by rw [changeItemEnd_none hc]))

theorem changeHandover (j : SlotId) (p : Port) : Tended i ev₀ (ev.changeHandover j p) :=
  h.trans (of_spared (spared_changeHandover ..) (fun hc => by rw [changeHandover_none hc]))

theorem announceDiscard (j : SlotId) (r : Reason) (e : Entry) : Tended i ev₀ (ev.announceDiscard j r e) :=
  h.trans (of_spared (spared_announceDiscard ..) (fun _ => by simp))

theorem endEntry (j : SlotId) (r : Reason) (e : Entry) : Tended i ev₀ (ev.endEntry j r e) :=
  (h.announceDiscard j r e).changeItemEnd ..

theorem record (k : Cond) : Tended i ev₀ (ev.record i k) := by
  cases hmem : (ev.slot i).conds.mem k with
  | true => rw [record_present hmem]; exact h
  | false =>
    rw [record_absent hmem]
    exact (h.trans (of_own _ (fun _ => rfl) id id)).notify ..

theorem markDirty (r : RecId) : Tended i ev₀ (ev.markDirty r) :=
  h.trans ⟨rfl, fun _ => rfl, fun _ _ => ⟨rfl, rfl⟩, fun _ => worked_markDirty ev i r, .same rfl, fun _ h => h, fun _ h => h, fun _ h => h⟩

theorem raise {f : SlotId} (hl : (ev.slot i).cp.linkedFeeder = some f) (r : Inhibit) : Tended i ev₀ (ev.raise f r) := by
  unfold Ev.raise
  split
  · exact h
  · exact (h.trans (of_linked hl _ (fun x => raise_eq x r) (fun _ hok => hok.raise r))).trans (of_same (by simp) (by simp))

theorem lower {f : SlotId} (hl : (ev.slot i).cp.linkedFeeder = some f) (r : Inhibit) : Tended i ev₀ (ev.lower f r) := by
  unfold Ev.lower
  split
  · exact (h.trans (of_linked hl _ (fun _ => rfl) (fun _ hok => hok.lower r))).trans (of_same (by simp) (by simp))
  · exact h

theorem raiseLinked (r : Inhibit) : Tended i ev₀ (ev.raiseLinked i r) := by
  unfold Ev.raiseLinked
  split
  · next f hf => exact h.raise hf r
  · exact h

theorem lowerLinked (r : Inhibit) : Tended i ev₀ (ev.lowerLinked i r) := by
  unfold Ev.lowerLinked
  split
  · next f hf => exact h.lower hf r
  · exact h

theorem lockLinked : Tended i ev₀ (ev.lockLinked i) := by
  unfold Ev.lockLinked
  split
  · next f hf =>
    split
    · exact h
    · exact (h.trans (of_linked hf _ (fun x => raise_eq x .lockout) (fun _ hok => hok.raise .lockout))).trans (of_same (by simp) (by simp))
  · exact h

theorem mergeLinked : Tended i ev₀ (ev.mergeLinked i) := h.trans (of_same (by simp) (by simp))

end

/-! ### The shared operations of chapters 3 to 5 -/

section
variable (h : Tended i ev₀ ev)
include h

theorem setMotion (m : Motion) : Tended i ev₀ (ev.setMotion i m) := h.modCrusher _

theorem onMove (f : MoveRec → MoveRec) : Tended i ev₀ (ev.onMove i f) := h.modCrusher _

theorem onEpisode (f : Episode → Episode) : Tended i ev₀ (ev.onEpisode i f) := h.modCrusher _

theorem onCal (f : CalRun → CalRun) : Tended i ev₀ (ev.onCal i f) := h.modCrusher _

theorem stopMotion : Tended i ev₀ (ev.stopMotion i) := h.holdDrive.modCrusher _

theorem foldl {α : Type} (f : Ev → α → Ev) (hf : ∀ ev x, Tended i ev (f ev x)) (xs : List α) : Tended i ev₀ (xs.foldl f ev) := by
  induction xs generalizing ev with
  | nil => exact h
  | cons x xs ih => exact ih (h.trans (hf ev x))

theorem dropEntries (p : Entry → Bool) : Tended i ev₀ (ev.dropEntries i p) :=
  h.dequeue _ List.filter_sublist

theorem discardWhere (p : Entry → Bool) (r : Reason) : Tended i ev₀ (ev.discardWhere i p r) :=
  (h.dropEntries p).foldl _ (fun ev e => (refl i ev).endEntry i r e) _

theorem discardAll (r : Reason) : Tended i ev₀ (ev.discardAll i r) := h.discardWhere _ r

theorem pushRecall (o : Origin) : Tended i ev₀ (ev.pushRecall i o) := by
  unfold Ev.pushRecall
  dsimp only
  split
  · exact (h.modCrusher _).record _
  · exact h.modCrusher _

theorem settleTarget (m : MoveRec) : Tended i ev₀ (ev.settleTarget i m) := by
  have hat : ∀ {ev : Ev}, Tended i ev₀ ev → Tended i ev₀ ((ev.modCrusher i (fun c => { c with wAtMove := c.w })).markDirty (.wear i)) :=
    fun h => (h.crusherTo _ id (.inr ⟨Nat.le_refl _, id⟩)).markDirty _
  unfold Ev.settleTarget
  dsimp only
  split
  · exact hat ((h.pushRecall _).modCrusher _)
  · exact hat ((h.pushRecall _).modCrusher _)
  · exact hat h

theorem closeMove (m : MoveRec) (d : Disposition) (r : Reason) : Tended i ev₀ (ev.closeMove i m d r) :=
  (((h.modCrusher _).entryFinal ..).notify ..).changeItemEnd ..

theorem ite {p : Prop} [Decidable p] {ev' : Ev} (h' : Tended i ev₀ ev') : Tended i ev₀ (if p then ev else ev') := by
  split
  · exact h
  · exact h'

theorem finishMove (d : Disposition) (r : Reason) : Tended i ev₀ (ev.finishMove i d r).1 := by
  unfold Ev.finishMove
  dsimp only
  split
  · exact h
  · split
    · exact (((h.onEpisode _).settleTarget _).ite (h.onEpisode _)).closeMove ..
    · have hstopped := (h.stopMotion.lowerLinked .drain).ite (p := ((ev.stopMotion i).slot i).kind = .jaw) h.stopMotion
      exact (((hstopped.settleTarget _).ite hstopped).closeMove ..).setMotion _

theorem finishDone : Tended i ev₀ (ev.finishDone i).1 := by
  unfold Ev.finishDone
  split <;> exact h.finishMove ..

theorem enterBlocked (b : BlockCause) : Tended i ev₀ (ev.enterBlocked i b) :=
  (((h.stopMotion.setMotion _).discardAll _).raiseLinked _).ite ((h.stopMotion.setMotion _).discardAll _)

theorem addCause (k : Cause) : Tended i ev₀ (ev.addCause i k) := by
  unfold Ev.addCause
  dsimp only
  split
  case h_7 => exact h
  case h_4 | h_5 | h_6 => exact h.onMove _
  all_goals exact ((h.stopMotion.setMotion _).modCrusher _).onMove _

theorem moveStep (p : Nat) : Tended i ev₀ (ev.moveStep i p) := by
  unfold Ev.moveStep
  dsimp only
  split
  · exact h
  · split
    · exact h.driveTo ..
    · exact (h.holdDrive.setMotion _).modCrusher _

theorem positionLost : Tended i ev₀ (ev.positionLost i).1 := by
  have hheld := (h.record .positionInvalid).holdDrive.modCrusher (fun c => { c with settle := none })
  unfold Ev.positionLost
  dsimp only
  split
  · exact hheld.addCause _
  · exact hheld.finishMove ..

theorem enterMoving : Tended i ev₀ (ev.enterMoving i).1 := by
  unfold Ev.enterMoving
  dsimp only
  split
  · exact (h.setMotion _).moveStep _
  · exact (h.setMotion _).positionLost

theorem startDrainTimers : Tended i ev₀ (ev.startDrainTimers i) := by
  unfold Ev.startDrainTimers; exact h.modCrusher _

theorem stopDrainTimers : Tended i ev₀ (ev.stopDrainTimers i) := h.modCrusher _

theorem leaveDraining : Tended i ev₀ (ev.leaveDraining i).1 := h.stopDrainTimers.enterMoving

theorem enterDraining : Tended i ev₀ (ev.enterDraining i).1 := by
  have hdrains := ((h.setMotion .draining).raiseLinked .drain).startDrainTimers
  unfold Ev.enterDraining
  dsimp only
  split
  · exact hdrains.leaveDraining
  · exact hdrains

theorem restartTravel : Tended i ev₀ (ev.restartTravel i) := h.modCrusher _

theorem leaveSuspension : Tended i ev₀ (ev.leaveSuspension i).1 := by
  unfold Ev.leaveSuspension
  split
  · exact h
  · split
    · exact h.restartTravel.enterDraining
    · exact h.restartTravel.enterMoving
    · split
      · exact h.addCause _
      · exact h.finishMove ..

theorem testCauses : Tended i ev₀ (ev.testCauses i).1 := by
  unfold Ev.testCauses
  dsimp only
  split
  · exact h.leaveSuspension
  · exact h

theorem launch : Tended i ev₀ (ev.launch i).1 := by
  have htimed := h.modCrusher (fun c => { c with travel := ev.timer ((ev.slot i).cp.travel * 1000) })
  unfold Ev.launch
  dsimp only
  split
  · exact htimed.enterDraining
  · exact htimed.enterMoving

theorem aim (gap : Nat) : Tended i ev₀ (ev.aim i gap).1 := by
  have htold := (h.record .reach).ite (p := (targetFor (ev.slot i).cp (ev.slot i).crusher.z (ev.slot i).crusher.w (ev.masked i .reach) gap).reach) h
  unfold Ev.aim
  dsimp only
  split
  · exact htold.finishMove ..
  · exact (htold.onMove _).launch

theorem startHead : Tended i ev₀ (ev.startHead i).1 := by
  unfold Ev.startHead
  dsimp only
  split
  · exact h
  · next e rest hqueue =>
    have hhead := h.dequeue (fun c => { c with queue := rest, move := some ⟨e, (resolveEntry (ev.slot i).cp (ev.slot i).crusher.tf (ev.masked i .envelope) e).applied, 0, if e.adjusted || (resolveEntry (ev.slot i).cp (ev.slot i).crusher.tf (ev.masked i .envelope) e).clamped then some .envelope else none, .moving, .zero, 0⟩ })
      (by rw [Ev.crusher, hqueue]; exact List.sublist_cons_self ..)
    split
    · exact ((hhead.record _).ite hhead).finishMove ..
    · exact ((hhead.record _).ite hhead).aim _

theorem addTrim (hempty : (ev.crusher i).queue.isEmpty = true) : Tended i ev₀ (ev.addTrim i) := by
  refine h.crusherTo _ (fun _ => ?_) (.inl ⟨rfl, rfl⟩)
  rw [List.isEmpty_iff.1 hempty]
  exact .single _

theorem startCheck (fuel : Nat) (trim : Bool) : Tended i ev₀ (Ev.startCheck fuel ev i trim) := by
  induction fuel generalizing ev trim with
  | zero => exact h
  | succ n ih =>
    unfold Ev.startCheck
    dsimp only
    split
    · exact (h.modCrusher _).enterBlocked _
    · split
      · split
        · exact h.startHead
        · exact ih h.startHead _
      · split
        · next hdue => exact ih (h.addTrim (by simp only [Bool.and_eq_true] at hdue; exact hdue.1.1)) _
        · exact h

theorem check (trim : Bool) : Tended i ev₀ (ev.check i trim) := h.startCheck ..

theorem evaluateTrim : Tended i ev₀ (ev.evaluateTrim i) := by
  unfold Ev.evaluateTrim
  split
  · next hdue =>
    refine (h.addTrim ?_).check _
    obtain ⟨-, -, -, -, hqueue, -⟩ := (trimDue_iff ev i).1 hdue
    rw [Ev.crusher, hqueue]; rfl
  · exact h

end

theorem follow {r : Ev × Option Bool} (h : Tended i ev₀ r.1) : Tended i ev₀ (Ev.follow r i) := by
  unfold Ev.follow
  split
  · exact h
  · exact h.check _

end Tended

end Sys2Proof.Proofs
end


section
/-! PROOF. The events of the calibration tracker, the relief monitor, the timers and the channels tend one crusher (chapters 4, 5 and 10). -/

namespace Sys2Proof.Proofs.Tended

open Sys2Proof Sys2Proof.Machine

set_option Elab.async false

variable {i : SlotId} {ev₀ ev : Ev} (h : Tended i ev₀ ev)
include h

/-! ### Calibration and wear (chapter 5) -/

theorem endCal (d : Disposition) (r : Reason) : Tended i ev₀ (ev.endCal i d r) := by
  unfold Ev.endCal
  split
  · exact h
  · exact ((((h.stopMotion.lowerLinked _).modCrusher _).finalReply ..).notify ..).setMotion _

theorem failCal (r : Reason) : Tended i ev₀ (ev.failCal i r) := (h.endCal ..).check _

theorem calDrive (slowly : Bool) (target : Int) (p : Nat) : Tended i ev₀ (ev.calDrive i slowly target p) := by
  unfold Ev.calDrive
  dsimp only
  split
  · exact h.driveGuarded ..
  · exact h.holdDrive.modCrusher _

theorem startTravel : Tended i ev₀ (ev.startTravel i) := h.modCrusher _

theorem enterBackoff (contact : Nat) : Tended i ev₀ (ev.enterBackoff i contact) :=
  ((((h.record _).ite h).onCal _).startTravel).calDrive ..

theorem contact (zNew : Nat) : Tended i ev₀ (ev.contact i zNew) := by
  unfold Ev.contact
  dsimp only
  refine Tended.enterBackoff (Tended.ite (Tended.markDirty (Tended.onCal (Tended.modCrusher ?_ _) _) _)
    (Tended.markDirty (Tended.markDirty (Tended.crusherTo (Tended.onCal (Tended.modCrusher ?_ _) _) _ id
      (.inr ⟨Nat.le_refl _, fun _ => Nat.zero_le _⟩)) _) _)) _
  all_goals exact Tended.ite (h.holdDrive.record _) h.holdDrive

theorem enterReopen (p : Nat) : Tended i ev₀ (ev.enterReopen i p) := ((h.onCal _).startTravel).calDrive ..

theorem enterApproach : Tended i ev₀ (ev.enterApproach i) := by
  unfold Ev.enterApproach
  dsimp only
  split
  · exact ((h.stopDrainTimers.onCal _).onCal _).startTravel.setDrive _
  · exact ((h.stopDrainTimers.onCal _).record _).failCal _

theorem approachReading (run : CalRun) (p : Nat) : Tended i ev₀ (ev.approachReading i run p) := by
  unfold Ev.approachReading
  split
  · exact (h.holdDrive.record _).enterReopen _
  · split
    · exact h.contact _
    · exact h.onCal _

theorem enterCalDrain : Tended i ev₀ (ev.enterCalDrain i) := by
  unfold Ev.enterCalDrain
  exact Tended.ite (h.raiseLinked _).startDrainTimers.enterApproach (h.raiseLinked _).startDrainTimers

theorem calReading (p : Nat) : Tended i ev₀ (ev.calReading i p) := by
  unfold Ev.calReading
  dsimp only
  split
  · exact h
  · split
    · exact h
    · exact h.approachReading ..
    · exact Tended.ite h (h.calDrive ..)
    · exact Tended.ite h (h.calDrive ..)

theorem calLost : Tended i ev₀ (ev.calLost i) := by
  unfold Ev.calLost
  split
  · exact h
  · split
    · exact h
    · exact (h.holdDrive.record _).failCal _
    · exact (h.holdDrive.record _).failCal _
    · exact (h.holdDrive.modCrusher _).record _

theorem calSettled : Tended i ev₀ (ev.calSettled i) := by
  unfold Ev.calSettled
  dsimp only
  split
  · split
    · exact Tended.ite (h.failCal _) (h.calDrive ..)
    · exact Tended.ite ((h.endCal ..).check _) (h.calDrive ..)
    · exact h
  · exact h

theorem calTravelOut : Tended i ev₀ (ev.calTravelOut i) := by
  unfold Ev.calTravelOut
  split
  · exact h
  · exact (h.holdDrive.record _).failCal _

theorem wearCeiling : Tended i ev₀ (ev.wearCeiling i) := by
  unfold Ev.wearCeiling
  dsimp only
  split
  · exact h.record _
  · split
    · exact (h.record _).enterBlocked _
    · exact h.record _
    · exact (h.record _).modCrusher _

theorem wearCarry : Tended i ev₀ (ev.wearCarry i) := by
  unfold Ev.wearCarry
  dsimp only
  split
  · next hlt =>
    have hworn : Tended i ev₀ ((ev.modCrusher i (fun c => { c with w := c.w + 1 })).markDirty (.wear i)) := by
      refine h.trans (markDirty ?_ _)
      exact of_own _ (fun _ => rfl) id (fun hok => ⟨hlt, Nat.le_succ_of_le hok.2⟩)
    exact (Tended.ite hworn.wearCeiling hworn).evaluateTrim
  · exact h.wearCeiling

theorem tonnagePulse : Tended i ev₀ (ev.tonnagePulse i) := by
  unfold Ev.tonnagePulse
  exact Tended.ite (h.modCrusher _).wearCarry (h.modCrusher _)

/-! ### Tramp relief (chapter 4) -/

theorem reliefNotice (o : Option ReliefOutcome) : Tended i ev₀ (ev.reliefNotice i o) := h.notify ..

theorem prune : Tended i ev₀ (ev.prune i) := h.modCrusher _

theorem openEpisode (prior : Motion) : Tended i ev₀ (ev.openEpisode i prior) := by
  unfold Ev.openEpisode
  dsimp only
  split
  · exact h.onEpisode _
  · exact h.modCrusher _

theorem stopRestart : Tended i ev₀ (ev.stopRestart i) := Tended.ite ((h.modCrusher _).lowerLinked _) h

theorem reliefStart : Tended i ev₀ (ev.reliefStart i) := by
  have hopened := (h.modCrusher (fun c => { c with history := appendHistory c.history ev.s.lineClock })).stopRestart
  unfold Ev.reliefStart
  dsimp only
  split
  · exact (hopened.raiseLinked _).reliefNotice _
  · refine Tended.reliefNotice (Tended.setMotion (Tended.openEpisode (Tended.ite (Tended.endCal (Tended.stopMotion ?_) _ _)
      (Tended.stopMotion ?_)) _) _) _
    all_goals exact Tended.ite hopened (hopened.raiseLinked _)

theorem recoverStep (p : Nat) : Tended i ev₀ (ev.recoverStep i p) := by
  unfold Ev.recoverStep
  dsimp only
  split
  · exact h
  · split
    · exact h.driveTo ..
    · exact h.holdDrive.modCrusher _

theorem enterRecovering : Tended i ev₀ (ev.enterRecovering i) := by
  unfold Ev.enterRecovering
  dsimp only
  split
  · exact (((h.onEpisode _).setMotion _).startTravel.modCrusher _).recoverStep _
  · exact ((h.onEpisode _).setMotion _).startTravel.modCrusher _

theorem trampRepeat : Tended i ev₀ (ev.trampRepeat i) :=
  ((((h.record _).finishMove _ _).modCrusher _).enterBlocked _).reliefNotice _

theorem reliefOver : Tended i ev₀ (ev.reliefOver i) := by
  unfold Ev.reliefOver
  dsimp only
  split
  · exact ((((h.prune.modCrusher _).setMotion _).lowerLinked _).reliefNotice _).check _
  · exact Tended.ite h.prune.trampRepeat (h.prune.enterRecovering.reliefNotice _)

theorem reliefEnd : Tended i ev₀ (ev.reliefEnd i) := by
  unfold Ev.reliefEnd
  split
  · exact h.reliefOver
  · exact h.reliefNotice _
  · exact h.reliefNotice _
  · exact (h.lowerLinked _).reliefNotice _
  · exact (h.prune.lowerLinked _).reliefNotice _

theorem afterRecovery (back : EpisodeReturn) : Tended i ev₀ (ev.afterRecovery i back) := by
  unfold Ev.afterRecovery
  dsimp only
  split
  · exact (h.setMotion _).check _
  · exact (h.setMotion _).check _
  · split
    · exact ((h.holdDrive.setMotion _).modCrusher _).onMove _
    · split
      · exact follow (h.setMotion _).finishDone
      · exact follow h.startTravel.enterMoving

theorem completeRecovery : Tended i ev₀ (ev.completeRecovery i) :=
  (((h.modCrusher _).lowerLinked _).raiseLinked _).afterRecovery _

theorem recoverySettled : Tended i ev₀ (ev.recoverySettled i) := by
  unfold Ev.recoverySettled
  dsimp only
  split
  · exact Tended.ite h.completeRecovery (h.recoverStep _)
  · exact h

theorem failRecovery : Tended i ev₀ (ev.failRecovery i) := by
  unfold Ev.failRecovery
  exact (((h.stopMotion.record _).finishMove _ _).modCrusher _).enterBlocked _

theorem recoveryLost : Tended i ev₀ (ev.recoveryLost i) := (h.holdDrive.modCrusher _).record _

theorem lockoutWork : Tended i ev₀ (ev.lockoutWork i) := by
  unfold Ev.lockoutWork
  split
  · exact h
  · exact (((h.finishMove _ _).discardAll _).onEpisode _).lowerLinked _
  · exact (((((h.finishMove _ _).discardAll _).stopMotion.modCrusher _)).setMotion _).lowerLinked _
  · exact (h.discardAll _).endCal ..
  · exact (h.finishMove _ _).discardAll _

theorem crusherLockout : Tended i ev₀ (ev.crusherLockout i) := by
  unfold Ev.crusherLockout
  exact Tended.ite ((h.holdDrive.lockoutWork.stopRestart.lockLinked).check _).mergeLinked h.holdDrive.lockoutWork.stopRestart.lockLinked

theorem crusherUnlock : Tended i ev₀ (ev.crusherUnlock i) :=
  (Tended.ite ((h.lowerLinked _).raiseLinked _) (h.lowerLinked _)).check _

/-! ### Authority and the line stop at one crusher (chapter 7) -/

theorem handoverEntries (p : Port) : Tended i ev₀ (ev.handoverEntries i p) :=
  (h.dropEntries _).foldl _ (fun ev e => (refl i ev).announceDiscard i _ e) _

theorem handoverMove (p : Port) : Tended i ev₀ (ev.handoverMove i p) := Tended.ite (h.addCause _) h

theorem handover (p : Port) : Tended i ev₀ (ev.handover i p) := ((h.handoverEntries p).handoverMove p).changeHandover ..

theorem lineStopCrusher : Tended i ev₀ (ev.lineStopCrusher i) := by
  unfold Ev.lineStopCrusher
  split
  · exact h.failCal _
  · exact h.addCause _

/-! ### The channels and the timers (chapters 3 and 10) -/

theorem levelValue : Tended i ev₀ (ev.levelValue i) := by
  unfold Ev.levelValue
  dsimp only
  split
  · split
    · exact follow h.leaveDraining
    · exact Tended.ite h.enterApproach h
    · exact h
  · exact h

theorem sensorBack : Tended i ev₀ (ev.sensorBack i) := Tended.ite (follow (h.onMove _).testCauses) h

theorem positionReading (p : Nat) : Tended i ev₀ (ev.positionReading i p) := by
  unfold Ev.positionReading
  split
  · exact h.moveStep _
  · exact h.sensorBack
  · exact h.sensorBack
  · exact Tended.ite h.sensorBack (h.sensorBack.recoverStep _)
  · exact h.calReading _
  · exact h

theorem positionGone : Tended i ev₀ (ev.positionGone i) := by
  unfold Ev.positionGone
  split
  · exact follow h.positionLost
  · exact follow h.positionLost
  · exact h.record _
  · exact h.record _
  · exact h.recoveryLost
  · exact h.calLost
  · exact h

theorem positionEvent (e : PositionEvent) : Tended i ev₀ (ev.positionEvent i e) := by
  unfold Ev.positionEvent
  split
  · exact h
  · exact h.retestDrive.positionReading _
  · exact h.retestDrive.positionReading _
  · exact h.retestDrive.positionGone

theorem travelOut : Tended i ev₀ (ev.travelOut i) := by
  unfold Ev.travelOut
  split
  · exact follow ((h.holdDrive.record _).finishMove ..)
  · exact follow ((h.holdDrive.record _).finishMove ..)
  · exact follow ((h.holdDrive.record _).finishMove ..)
  · exact h.calTravelOut
  · exact h

theorem moveSettled : Tended i ev₀ (ev.moveSettled i) := by
  unfold Ev.moveSettled
  dsimp only
  split
  · exact Tended.ite (follow h.finishDone) (follow h.enterMoving)
  · exact h

theorem settleOut : Tended i ev₀ (ev.settleOut i) := by
  have hstopped := h.modCrusher (fun c => { c with settle := none })
  unfold Ev.settleOut
  dsimp only
  split
  · exact hstopped.moveSettled
  · exact hstopped.recoverySettled
  · exact hstopped.calSettled
  · exact hstopped

theorem suspensionOut : Tended i ev₀ (ev.suspensionOut i) := by
  unfold Ev.suspensionOut
  split
  · exact follow ((h.record _).finishMove ..)
  · exact h

theorem drainLimitOut : Tended i ev₀ (ev.drainLimitOut i) := by
  unfold Ev.drainLimitOut
  split
  · exact follow ((h.record _).finishMove ..)
  · exact (h.record _).failCal _
  · exact h

theorem fixedDrainOut : Tended i ev₀ (ev.fixedDrainOut i) := by
  unfold Ev.fixedDrainOut
  split
  · exact follow h.leaveDraining
  · exact h.enterApproach
  · exact h

/-! ### The requests at one crusher (chapters 3 to 5) -/

theorem makeRoom {e : Entry} {ev' : Ev} (hroom : ev.makeRoom i e = some ev') : Tended i ev₀ ev' := by
  unfold Ev.makeRoom at hroom
  dsimp only at hroom
  split at hroom
  · cases hroom; exact h
  · split at hroom
    · split at hroom
      · cases hroom
        exact (h.dequeue _ (dropNewestOrdinary_sublist _)).endEntry ..
      · cases hroom
    · cases hroom

theorem flushSlot : Tended i ev₀ (ev.flushSlot i) := by
  unfold Ev.flushSlot
  dsimp only
  split
  · exact follow ((h.discardAll _).finishMove ..)
  · exact follow ((h.discardAll _).finishMove ..)
  · exact follow ((h.discardAll _).finishMove ..)
  · exact follow ((h.discardAll _).finishMove ..)
  · exact Tended.ite ((h.discardAll _).finishMove ..) (h.discardAll _)
  · exact Tended.ite ((h.discardAll _).finishMove ..) (h.discardAll _)
  · exact h.discardAll _

end Sys2Proof.Proofs.Tended
end


section
/-! PROOF. What the shared operations of the motion controllers leave in the record of their crusher (chapters 3 to 5). -/

namespace Sys2Proof.Proofs

open Sys2Proof Sys2Proof.Machine

set_option Elab.async false

/-! ### Steps that leave the crusher's record -/

section
variable (ev : Ev) (i j : SlotId)

@[simp] theorem crusher_of (s : State) : (Ev.of s).crusher i = (s.slots.get i).crusher := rfl

@[simp] theorem crusher_setDrive (c : DriveCmd) : (ev.setDrive i c).crusher i = ev.crusher i := by
  rw [Ev.crusher, slot_setDrive]; rfl

@[simp] theorem crusher_holdDrive : (ev.holdDrive i).crusher i = ev.crusher i := crusher_setDrive ..

@[simp] theorem crusher_driveTo (slowly : Bool) (p : Nat) (t : Int) (d : Dir) : (ev.driveTo i slowly p t d).crusher i = ev.crusher i :=
  crusher_setDrive ..

@[simp] theorem crusher_driveGuarded (slowly : Bool) (p : Nat) (t : Int) (d : Dir) :
    (ev.driveGuarded i slowly p t d).crusher i = ev.crusher i := by
  unfold Ev.driveGuarded; split <;> simp

@[simp] theorem crusher_retestDrive : (ev.retestDrive i).crusher i = ev.crusher i := by
  simp [Ev.crusher, Ev.retestDrive]

@[simp] theorem crusher_record (k : Cond) : (ev.record j k).crusher i = ev.crusher i := (spared_record ev j k).crusher i

@[simp] theorem crusher_markDirty (r : RecId) : (ev.markDirty r).crusher i = ev.crusher i := rfl

@[simp] theorem crusher_notify (n : Option SlotId) (b : NoticeBody) : (ev.notify n b).crusher i = ev.crusher i := rfl

@[simp] theorem crusher_finalReply (p : Port) (a : Bool) (r : Reply) : (ev.finalReply p a r).crusher i = ev.crusher i :=
  (spared_finalReply ev p a r).crusher i

@[simp] theorem crusher_entryFinal (e : Entry) (d : Disposition) (r : Reason) (b : ReplyBody) :
    (ev.entryFinal j e d r b).crusher i = ev.crusher i := (spared_entryFinal ev j e d r b).crusher i

@[simp] theorem crusher_moveEndNotice (e : Entry) (d : Disposition) (r : Reason) :
    (ev.moveEndNotice j e d r).crusher i = ev.crusher i := rfl

@[simp] theorem crusher_announceDiscard (r : Reason) (e : Entry) : (ev.announceDiscard j r e).crusher i = ev.crusher i :=
  (spared_announceDiscard ev j r e).crusher i

@[simp] theorem crusher_changeItemEnd (id : Option Nat) (st : ItemState) (r : Reason) :
    (ev.changeItemEnd id j st r).crusher i = ev.crusher i := (spared_changeItemEnd ev id j st r).crusher i

@[simp] theorem crusher_changeHandover (p : Port) : (ev.changeHandover j p).crusher i = ev.crusher i :=
  (spared_changeHandover ev j p).crusher i

@[simp] theorem crusher_endEntry (r : Reason) (e : Entry) : (ev.endEntry j r e).crusher i = ev.crusher i :=
  (spared_endEntry ev j r e).crusher i

@[simp] theorem crusher_reliefNotice (o : Option ReliefOutcome) : (ev.reliefNotice j o).crusher i = ev.crusher i := rfl

theorem crusher_modFeeder (f : Feeder → Feeder) : (ev.modFeeder j f).crusher i = ev.crusher i := by
  by_cases hij : i = j
  · subst hij; simp [Ev.crusher, Ev.modFeeder]
  · exact congrArg Slot.crusher (State.modSlot_slot_ne _ _ hij)

/-- What only raises notices leaves every crusher. -/
theorem crusher_same {ev ev' : Ev} (h : ev'.s = ev.s) : ev'.crusher i = ev.crusher i := by simp only [Ev.crusher, Ev.slot, h]

@[simp] theorem crusher_raise (r : Inhibit) : (ev.raise j r).crusher i = ev.crusher i := by
  unfold Ev.raise
  split
  · rfl
  · rw [crusher_same i (Ev.inhibitNotice_s ..), crusher_modFeeder]

@[simp] theorem crusher_lower (r : Inhibit) : (ev.lower j r).crusher i = ev.crusher i := by
  unfold Ev.lower
  split
  · rw [crusher_same i (Ev.inhibitNotice_s ..), crusher_modFeeder]
  · rfl

@[simp] theorem crusher_raiseLinked (r : Inhibit) : (ev.raiseLinked j r).crusher i = ev.crusher i := by
  unfold Ev.raiseLinked; split <;> simp

@[simp] theorem crusher_lowerLinked (r : Inhibit) : (ev.lowerLinked j r).crusher i = ev.crusher i := by
  unfold Ev.lowerLinked; split <;> simp

@[simp] theorem crusher_lockLinked : (ev.lockLinked j).crusher i = ev.crusher i := by
  rw [crusher_same i (Ev.lockLinked_s ev j), crusher_raiseLinked]

@[simp] theorem crusher_mergeLinked : (ev.mergeLinked j).crusher i = ev.crusher i := crusher_same i (Ev.mergeLinked_s ev j)

end

/-! ### Steps that change it -/

section
variable (ev : Ev) (i : SlotId)

@[simp] theorem crusher_modCrusher (f : Crusher → Crusher) : (ev.modCrusher i f).crusher i = f (ev.crusher i) := by
  rw [Ev.crusher, slot_modCrusher]; rfl

@[simp] theorem crusher_setMotion (m : Motion) : (ev.setMotion i m).crusher i = { ev.crusher i with motion := m } :=
  crusher_modCrusher ..

@[simp] theorem crusher_onMove (f : MoveRec → MoveRec) :
    (ev.onMove i f).crusher i = { ev.crusher i with move := (ev.crusher i).move.map f } := crusher_modCrusher ..

@[simp] theorem crusher_onEpisode (f : Episode → Episode) :
    (ev.onEpisode i f).crusher i = { ev.crusher i with episode := (ev.crusher i).episode.map f } := crusher_modCrusher ..

@[simp] theorem crusher_onCal (f : CalRun → CalRun) :
    (ev.onCal i f).crusher i = { ev.crusher i with cal := (ev.crusher i).cal.map f } := crusher_modCrusher ..

@[simp] theorem crusher_stopMotion : (ev.stopMotion i).crusher i = (ev.crusher i).stopMoveTimers := by simp [Ev.stopMotion]

theorem crusher_foldl {α : Type} {f : Ev → α → Ev} (hf : ∀ ev x, (f ev x).crusher i = ev.crusher i) (xs : List α) :
    (xs.foldl f ev).crusher i = ev.crusher i := by
  induction xs generalizing ev with
  | nil => rfl
  | cons x xs ih => exact (ih _).trans (hf ev x)

/-- The discards of a queue leave the entries that are not picked (R39). -/
@[simp] theorem crusher_discardWhere (p : Entry → Bool) (r : Reason) :
    (ev.discardWhere i p r).crusher i = { ev.crusher i with queue := (ev.crusher i).queue.filter (fun e => !p e) } := by
  unfold Ev.discardWhere
  rw [crusher_foldl _ _ (fun ev e => crusher_endEntry ev i i r e)]
  exact crusher_modCrusher ..

@[simp] theorem crusher_discardAll (r : Reason) : (ev.discardAll i r).crusher i = { ev.crusher i with queue := [] } := by
  simp [Ev.discardAll]

/-- A crusher that has reached the target of a move: T_f and the recall stack for a SET or STEP, and W_at_move (R51, R57). -/
def reached (m : MoveRec) (c : Crusher) : Crusher :=
  let gap := m.entry.kind = .set ∨ m.entry.kind = .step
  { c with
    tf := if gap then m.applied.getD c.tf else c.tf
    stack := if gap then c.stack.push ⟨c.tf, m.entry.origin⟩ else c.stack
    wAtMove := c.w }

@[simp] theorem crusher_pushRecall (o : Origin) :
    (ev.pushRecall i o).crusher i = { ev.crusher i with stack := (ev.crusher i).stack.push ⟨(ev.crusher i).tf, o⟩ } := by
  unfold Ev.pushRecall; dsimp only; split <;> simp

@[simp] theorem crusher_settleTarget (m : MoveRec) : (ev.settleTarget i m).crusher i = reached m (ev.crusher i) := by
  unfold Ev.settleTarget reached
  cases m.entry.kind <;> simp

@[simp] theorem crusher_closeMove (m : MoveRec) (d : Disposition) (r : Reason) :
    (ev.closeMove i m d r).crusher i = { ev.crusher i with move := none } := by simp [Ev.closeMove]

/-- A move end with this disposition has reached its target (R51). -/
abbrev GoodEnd (d : Disposition) : Prop := d = .done ∨ d = .doneAdjusted

theorem finishMove_none {ev : Ev} {i : SlotId} (h : (ev.crusher i).move = none) (d : Disposition) (r : Reason) :
    ev.finishMove i d r = (ev, none) := by simp only [Ev.finishMove, h]

/-- A move that ends outside an episode leaves the slot IDLE (R51). -/
theorem crusher_finishMove {ev : Ev} {i : SlotId} {m : MoveRec} (hm : (ev.crusher i).move = some m)
    (hout : (ev.crusher i).motion.inEpisode = false) (d : Disposition) (r : Reason) :
    (ev.finishMove i d r).1.crusher i =
      { (if GoodEnd d then reached m (ev.crusher i) else ev.crusher i).stopMoveTimers with motion := .idle, move := none } := by
  simp only [Ev.finishMove, hm, hout]
  by_cases hgood : GoodEnd d <;> by_cases hjaw : ((ev.stopMotion i).slot i).kind = .jaw <;>
    simp [hgood, hjaw, reached, Crusher.stopMoveTimers]

/-- A move that ends within an episode leaves the state to the episode, which then returns to IDLE (R73). -/
theorem crusher_finishMove_episode {ev : Ev} {i : SlotId} {m : MoveRec} (hm : (ev.crusher i).move = some m)
    (hin : (ev.crusher i).motion.inEpisode = true) (d : Disposition) (r : Reason) :
    (ev.finishMove i d r).1.crusher i =
      { (if GoodEnd d then reached m (ev.crusher i) else ev.crusher i) with
        move := none, episode := (ev.crusher i).episode.map (fun e => { e with returnTo := .idle }) } := by
  simp only [Ev.finishMove, hm, hin]
  by_cases hgood : GoodEnd d <;> simp [hgood, reached]

@[simp] theorem crusher_startTravel :
    (ev.startTravel i).crusher i = { ev.crusher i with travel := ev.timer ((ev.slot i).cp.travel * 1000) } := crusher_modCrusher ..

@[simp] theorem crusher_startDrainTimers : (ev.startDrainTimers i).crusher i =
    { ev.crusher i with
      drainLimit := ev.timer ((ev.slot i).cp.drainLimit * 1000)
      fixedDrain := if (ev.slot i).cp.levelIn then none else ev.timer ((ev.slot i).cp.drainFixed * 1000) } := crusher_modCrusher ..

@[simp] theorem crusher_stopDrainTimers :
    (ev.stopDrainTimers i).crusher i = { ev.crusher i with drainLimit := none, fixedDrain := none } := crusher_modCrusher ..

@[simp] theorem crusher_restartTravel : (ev.restartTravel i).crusher i =
    { ev.crusher i with suspension := none, travel := (ev.crusher i).move.map (fun m => ev.s.clock + m.remaining) } :=
  crusher_modCrusher ..

@[simp] theorem enterBlocked_crusher (b : BlockCause) :
    (ev.enterBlocked i b).crusher i = { (ev.crusher i).stopMoveTimers with motion := .blocked b, queue := [] } := by
  unfold Ev.enterBlocked
  by_cases hb : b = .wearLimit <;> simp [hb]

end

/-- The motion states of a move in flight that does not wait (R48). -/
def InFlight (m : Motion) : Prop := m = .draining ∨ m = .moving ∨ m = .settling

/-- The motion states in which a cause only joins the set (R48). -/
def Waiting (m : Motion) : Prop := m = .suspended ∨ m = .relief ∨ m = .recovering

/-- A move takes a cause and waits: the timers stop, the time left is kept, and the suspension timer runs up to `limit` (R48). -/
def suspendedBy (k : Cause) (left : Nat) (limit : Nat) (c : Crusher) : Crusher :=
  { c.stopMoveTimers with
    motion := .suspended
    suspension := some limit
    move := c.move.map (fun m => { m with
      causes := m.causes.put k true
      returnTo := if c.motion = .draining then .draining else .moving
      remaining := left }) }

section
variable {ev : Ev} {i : SlotId}

theorem crusher_addCause_inFlight (h : InFlight (ev.crusher i).motion) (k : Cause) : (ev.addCause i k).crusher i =
    suspendedBy k ((ev.s.remaining (ev.crusher i).travel).getD 0) (ev.s.clock + (ev.slot i).cp.suspLimit * 1000) (ev.crusher i) := by
  have hcp : (((ev.stopMotion i).setMotion i .suspended).slot i).cp = (ev.slot i).cp := ((Tended.refl i ev).stopMotion.setMotion _).cp i
  rcases h with h | h | h <;>
    simp [Ev.addCause, h, suspendedBy, Crusher.stopMoveTimers, hcp, Ev.addCause.suspLimitMs, Ev.timer] <;> rfl

theorem crusher_addCause_waiting (h : Waiting (ev.crusher i).motion) (k : Cause) : (ev.addCause i k).crusher i =
    { ev.crusher i with move := (ev.crusher i).move.map (fun m => { m with causes := m.causes.put k true }) } := by
  rcases h with h | h | h <;> simp [Ev.addCause, h]

theorem addCause_idle (h : ¬ InFlight (ev.crusher i).motion) (h' : ¬ Waiting (ev.crusher i).motion) (k : Cause) : ev.addCause i k = ev := by
  unfold InFlight at h
  unfold Waiting at h'
  cases hm : (ev.crusher i).motion <;> simp_all [Ev.addCause]

theorem moveStep_drive {m : MoveRec} {p : Nat} {d : Dir} (hm : (ev.crusher i).move = some m)
    (hd : toward p m.target (ev.slot i).cp.db = .drive d) : ev.moveStep i p = ev.driveTo i false p m.target d := by
  have hm' : (ev.slot i).crusher.move = some m := hm
  simp only [Ev.moveStep, hm', hd]

theorem moveStep_arrived {m : MoveRec} {p : Nat} (hm : (ev.crusher i).move = some m)
    (ha : toward p m.target (ev.slot i).cp.db = .arrived) :
    ev.moveStep i p = (((ev.holdDrive i).setMotion i .settling).modCrusher i (fun c => { c with settle := ev.timer (ev.slot i).cp.settle })) := by
  have hm' : (ev.slot i).crusher.move = some m := hm
  simp only [Ev.moveStep, hm', ha]

/-- A reading in MOVING leaves the record, or takes it to SETTLING (R44, R45). -/
theorem crusher_moveStep (ev : Ev) (i : SlotId) (p : Nat) : (ev.moveStep i p).crusher i = ev.crusher i
    ∨ (ev.moveStep i p).crusher i = { ev.crusher i with motion := .settling, settle := ev.timer (ev.slot i).cp.settle } := by
  cases hm : (ev.crusher i).move with
  | none =>
    have hm' : (ev.slot i).crusher.move = none := hm
    exact .inl (by simp only [Ev.moveStep, hm'])
  | some m =>
    cases ht : toward p m.target (ev.slot i).cp.db with
    | drive d => exact .inl (by rw [moveStep_drive hm ht, crusher_driveTo])
    | arrived => exact .inr (by rw [moveStep_arrived hm ht]; simp)

end

end Sys2Proof.Proofs
end


section
/-! PROOF. The work at a crusher keeps its records in agreement with its motion state (R42, R43, R52, R54, R61, R62, R85). -/

namespace Sys2Proof.Proofs

open Sys2Proof Sys2Proof.Machine

set_option Elab.async false

/-! ### The law of one crusher -/

/-- What `MotionLaw` says of one crusher slot `x` with the record `c`, in a part past its start-up. -/
structure Fits (x : Slot) (c : Crusher) : Prop where
  coherent : MotionCoherent c
  home : ∀ e ∈ c.episode, e.returnTo = .idle ∨ e.abandoned = true → c.move = none
  drains : c.motion = .draining ∨ (∃ m ∈ c.move, m.returnTo = .draining) → x.kind = .jaw
  jaw : x.kind = .jaw → c.episode = none ∧ x.relief.timer = none
  locked : x.lockout.state = true →
    (c.motion = .relief ∧ c.move = none ∧ ∀ e ∈ c.episode, e.abandoned = true) ∨ c.motion = .idle ∨ ∃ b, c.motion = .blocked b

/-- The crusher of an event that keeps to the law. -/
abbrev Lawful (i : SlotId) (ev : Ev) : Prop := Fits (ev.slot i) (ev.crusher i)

theorem motionLaw_iff {s : State} (hp : s.phase = .running) :
    MotionLaw s ↔ ∀ i, (s.slots.get i).kind.isCrusher = true → Fits (s.slots.get i) (s.slots.get i).crusher := by
  refine forall_congr' fun i => imp_congr_right fun _ => ⟨?_, ?_⟩
  · rintro ⟨hcoherent, hhome, hdrains, hjaw, hlocked, -⟩
    exact ⟨hcoherent, hhome, hdrains, hjaw, hlocked⟩
  · rintro ⟨hcoherent, hhome, hdrains, hjaw, hlocked⟩
    exact ⟨hcoherent, hhome, hdrains, hjaw, hlocked, fun h => absurd hp h⟩

/-- The law reads of a slot only its kind and its two inputs. -/
theorem Fits.congr {x y : Slot} {c : Crusher} (h : Fits x c) (hkind : y.kind = x.kind) (hlockout : y.lockout = x.lockout)
    (hrelief : y.relief = x.relief) : Fits y c := by
  obtain ⟨hcoherent, hhome, hdrains, hjaw, hlocked⟩ := h
  exact ⟨hcoherent, hhome, by rwa [hkind], by rwa [hkind, hrelief], by rwa [hlockout]⟩

theorem Tended.lawful {i : SlotId} {ev ev' : Ev} (h : Tended i ev ev') (hf : Fits (ev.slot i) (ev'.crusher i)) : Lawful i ev' :=
  hf.congr (h.kind i) (h.lockout i) (h.relief i)

/-- The record fits a slot whatever it holds that the law does not read. -/
theorem Fits.same {x : Slot} {c c' : Crusher} (h : Fits x c) (hmotion : c'.motion = c.motion) (hmove : c'.move = c.move)
    (hcal : c'.cal = c.cal) (hepisode : c'.episode = c.episode) (hqueue : c.queue = [] → c'.queue = []) : Fits x c' := by
  obtain ⟨hcoherent, hhome, hdrains, hjaw, hlocked⟩ := h
  refine ⟨?_, by rwa [hepisode, hmove], by rwa [hmotion, hmove], by rwa [hepisode], by rwa [hmotion, hmove, hepisode]⟩
  unfold MotionCoherent at hcoherent ⊢
  rw [hmotion, hmove, hcal, hepisode]
  split at hcoherent <;> simp_all

/-- A crusher at rest: no move, no run and no episode. -/
structure Rests (x : Slot) (c : Crusher) : Prop where
  move : c.move = none
  cal : c.cal = none
  episode : c.episode = none
  still : x.kind = .jaw → x.relief.timer = none

theorem Rests.idle {x : Slot} {c : Crusher} (h : Rests x c) (hm : c.motion = .idle) : Fits x c := by
  obtain ⟨hmove, hcal, hepisode, hstill⟩ := h
  constructor <;> simp_all [MotionCoherent]

theorem Rests.blocked {x : Slot} {c : Crusher} (h : Rests x c) {b : BlockCause} (hm : c.motion = .blocked b) (hq : c.queue = []) :
    Fits x c := by
  obtain ⟨hmove, hcal, hepisode, hstill⟩ := h
  constructor <;> simp_all [MotionCoherent]

theorem Fits.rests {x : Slot} {c : Crusher} (h : Fits x c) (hm : c.motion = .idle ∨ ∃ b, c.motion = .blocked b) : Rests x c := by
  have hc := h.coherent
  unfold MotionCoherent at hc
  rcases hm with hm | ⟨b, hm⟩ <;> rw [hm] at hc
  · exact ⟨hc.1, hc.2.1, hc.2.2, fun hk => (h.jaw hk).2⟩
  · exact ⟨hc.1, hc.2.1, hc.2.2.1, fun hk => (h.jaw hk).2⟩

/-- A crusher that may be in the states of a move: it has a move record, no run and no episode, and its lockout input is released. -/
structure Underway (x : Slot) (c : Crusher) : Prop where
  move : c.move.isSome = true
  cal : c.cal = none
  episode : c.episode = none
  drains : ∀ m ∈ c.move, m.returnTo = .draining → x.kind = .jaw
  still : x.kind = .jaw → x.relief.timer = none
  free : x.lockout.state = false

theorem Underway.fits {x : Slot} {c : Crusher} (h : Underway x c)
    (hm : c.motion = .moving ∨ c.motion = .settling ∨ c.motion = .suspended ∨ c.motion = .draining ∧ x.kind = .jaw) : Fits x c := by
  obtain ⟨hmove, hcal, hepisode, hdrains, hstill, hfree⟩ := h
  have hcoherent : MotionCoherent c := by
    unfold MotionCoherent
    rcases hm with hm | hm | hm | ⟨hm, -⟩ <;> rw [hm] <;> exact ⟨hmove, hcal, hepisode⟩
  refine ⟨hcoherent, by simp [hepisode], ?_, fun hk => ⟨hepisode, hstill hk⟩, by simp [hfree]⟩
  rintro (h | ⟨m, hmem, hback⟩)
  · rcases hm with hm | hm | hm | ⟨-, hk⟩
    · rw [h] at hm; cases hm
    · rw [h] at hm; cases hm
    · rw [h] at hm; cases hm
    · exact hk
  · exact hdrains m hmem hback

theorem Fits.underway {x : Slot} {c : Crusher} (h : Fits x c) (hm : InFlight c.motion ∨ c.motion = .suspended) : Underway x c := by
  obtain ⟨hcoherent, hhome, hdrains, hjaw, hlocked⟩ := h
  have hmoves : c.move.isSome = true ∧ c.cal = none ∧ c.episode = none := by
    unfold MotionCoherent at hcoherent
    rcases hm with (hm | hm | hm) | hm <;> rw [hm] at hcoherent <;> exact hcoherent
  refine ⟨hmoves.1, hmoves.2.1, hmoves.2.2, fun m hmem hback => hdrains (.inr ⟨m, hmem, hback⟩), fun hk => (hjaw hk).2, ?_⟩
  refine (Bool.not_eq_true _).mp (fun hlock => ?_)
  rcases hm with (hm | hm | hm) | hm <;> rw [hm] at hlocked <;> simp at hlocked <;> exact absurd hlock (by simp [hlocked])

/-- A change that keeps the move, or replaces it by another that drains in a jaw alone. -/
theorem Underway.same {x : Slot} {c c' : Crusher} (h : Underway x c) (hmove : c'.move = c.move) (hcal : c'.cal = c.cal)
    (hepisode : c'.episode = c.episode) : Underway x c' := by
  obtain ⟨hm, hc, he, hdrains, hstill, hfree⟩ := h
  exact ⟨by rw [hmove]; exact hm, by rw [hcal]; exact hc, by rw [hepisode]; exact he, by rwa [hmove], hstill, hfree⟩

/-! ### The motion cycle keeps the law (R41 to R52) -/

section
variable {ev : Ev} {i : SlotId}

/-- A move record that ends outside an episode leaves the crusher at rest in IDLE (R51). -/
theorem Underway.finishMove (h : Underway (ev.slot i) (ev.crusher i)) (hout : (ev.crusher i).motion.inEpisode = false)
    (d : Disposition) (r : Reason) : Lawful i (ev.finishMove i d r).1 := by
  obtain ⟨m, hm⟩ := Option.isSome_iff_exists.1 h.move
  refine ((Tended.refl i ev).finishMove d r).lawful ?_
  rw [crusher_finishMove hm hout]
  refine Rests.idle ⟨rfl, ?_, ?_, h.still⟩ rfl
  · have := h.cal; split <;> exact this
  · have := h.episode; split <;> exact this

theorem Fits.moveless {x : Slot} {c : Crusher} (h : Fits x c)
    (hm : c.motion = .idle ∨ c.motion = .calibrating ∨ ∃ b, c.motion = .blocked b) : c.move = none := by
  have hc := h.coherent
  unfold MotionCoherent at hc
  rcases hm with hm | hm | ⟨b, hm⟩ <;> rw [hm] at hc <;> exact hc.1

/-- The states of motion: at rest or under a calibration, with a move in flight or suspended, or within an episode. -/
theorem motion_cases (m : Motion) : (m = .idle ∨ m = .calibrating ∨ ∃ b, m = .blocked b) ∨ (InFlight m ∨ m = .suspended)
    ∨ m.inEpisode = true := by
  cases m <;> simp [InFlight, Motion.inEpisode]

theorem inEpisode_iff (m : Motion) : m.inEpisode = true ↔ m = .relief ∨ m = .recovering := by
  cases m <;> simp [Motion.inEpisode]

theorem outside_of_underway {m : Motion} (h : InFlight m ∨ m = .suspended) : m.inEpisode = false := by
  rcases h with (rfl | rfl | rfl) | rfl <;> rfl

/-- What the law says within an episode (R62). -/
theorem Fits.episode {x : Slot} {c : Crusher} (h : Fits x c) (hm : c.motion.inEpisode = true) :
    c.cal = none ∧ c.episode.isSome = true := by
  have hc := h.coherent
  unfold MotionCoherent at hc
  rcases (inEpisode_iff _).1 hm with hm | hm <;> rw [hm] at hc <;> exact hc

/-- Within an episode that carries a move the lockout input is released. -/
theorem Fits.carries {x : Slot} {c : Crusher} (h : Fits x c) (hm : c.motion.inEpisode = true) (hmove : c.move ≠ none) :
    x.lockout.state = false := by
  refine (Bool.not_eq_true _).mp (fun hlock => ?_)
  rcases h.locked hlock with ⟨-, hnone, -⟩ | hidle | ⟨b, hb⟩
  · exact hmove hnone
  · rw [hidle] at hm; cases hm
  · rw [hb] at hm; cases hm

theorem lawful_finishMove (h : Lawful i ev) (d : Disposition) (r : Reason) : Lawful i (ev.finishMove i d r).1 := by
  cases hmove : (ev.crusher i).move with
  | none => rw [finishMove_none hmove]; exact h
  | some m =>
    rcases motion_cases (ev.crusher i).motion with hrest | hgoes | hin
    · rw [h.moveless hrest] at hmove; cases hmove
    · exact (h.underway hgoes).finishMove (outside_of_underway hgoes) d r
    · have hfree := h.carries hin (by rw [hmove]; simp)
      obtain ⟨hcal, hepisode⟩ := h.episode hin
      refine ((Tended.refl i ev).finishMove d r).lawful ?_
      rw [crusher_finishMove_episode hmove hin]
      have hjaw : (ev.slot i).kind ≠ .jaw := fun hk => by rw [(h.jaw hk).1] at hepisode; cases hepisode
      have hmotion : ∀ c : Crusher, c.motion = (ev.crusher i).motion → c.cal = none → Fits (ev.slot i)
          { c with move := none, episode := (ev.crusher i).episode.map (fun e => { e with returnTo := .idle }) } := by
        intro c hm hc
        refine ⟨?_, fun _ _ _ => rfl, ?_, fun hk => absurd hk hjaw, by simp [hfree]⟩
        · unfold MotionCoherent
          rcases (inEpisode_iff _).1 hin with hin | hin <;> simp [hm, hin, hc, hepisode]
        · rcases (inEpisode_iff _).1 hin with hin | hin <;> simp [hm, hin]
      split
      · exact hmotion (reached m (ev.crusher i)) rfl hcal
      · exact hmotion _ rfl hcal

theorem lawful_finishDone (h : Lawful i ev) : Lawful i (ev.finishDone i).1 := by
  unfold Ev.finishDone
  split <;> exact lawful_finishMove h ..

/-- A crusher at rest may block (R52). -/
theorem Rests.enterBlocked (h : Rests (ev.slot i) (ev.crusher i)) (b : BlockCause) : Lawful i (ev.enterBlocked i b) := by
  refine ((Tended.refl i ev).enterBlocked b).lawful ?_
  rw [enterBlocked_crusher]
  exact Rests.blocked ⟨h.move, h.cal, h.episode, h.still⟩ rfl rfl

theorem Underway.addCause (h : Underway (ev.slot i) (ev.crusher i)) (hm : InFlight (ev.crusher i).motion)
    (hjaw : (ev.crusher i).motion = .draining → (ev.slot i).kind = .jaw) (k : Cause) : Lawful i (ev.addCause i k) := by
  obtain ⟨hmove, hcal, hepisode, hdrains, hstill, hfree⟩ := h
  refine ((Tended.refl i ev).addCause k).lawful ?_
  rw [crusher_addCause_inFlight hm]
  refine Underway.fits ⟨by simpa [suspendedBy] using hmove, hcal, hepisode, fun m hmem hback => ?_, hstill, hfree⟩ (.inr (.inr (.inl rfl)))
  simp only [suspendedBy, Option.mem_def, Option.map_eq_some_iff] at hmem
  obtain ⟨m', -, rfl⟩ := hmem
  exact hjaw (by simpa using hback)

/-- A move that only changes its causes keeps to the law. -/
theorem Fits.onMove {x : Slot} {c : Crusher} (h : Fits x c) {f : MoveRec → MoveRec} (hf : ∀ m, (f m).returnTo = m.returnTo) :
    Fits x { c with move := c.move.map f } := by
  obtain ⟨hcoherent, hhome, hdrains, hjaw, hlocked⟩ := h
  refine ⟨?_, fun e he hback => by simp [hhome e he hback], ?_, hjaw, fun hl => (hlocked hl).imp_left (fun ⟨hm, hnone, ha⟩ => ⟨hm, by simp [hnone], ha⟩)⟩
  · unfold MotionCoherent at hcoherent ⊢
    cases hm : c.motion <;> rw [hm] at hcoherent <;> simpa using hcoherent
  · rintro (hd | ⟨m, hmem, hback⟩)
    · exact hdrains (.inl hd)
    · simp only [Option.mem_def, Option.map_eq_some_iff] at hmem
      obtain ⟨m', hmem', rfl⟩ := hmem
      exact hdrains (.inr ⟨m', hmem', by rwa [hf] at hback⟩)

theorem lawful_addCause (h : Lawful i ev) (k : Cause) : Lawful i (ev.addCause i k) := by
  by_cases hin : InFlight (ev.crusher i).motion
  · exact (h.underway (.inl hin)).addCause hin (fun hd => h.drains (.inl hd)) k
  · by_cases hw : Waiting (ev.crusher i).motion
    · refine ((Tended.refl i ev).addCause k).lawful ?_
      rw [crusher_addCause_waiting hw]
      exact h.onMove (fun _ => rfl)
    · rw [addCause_idle hin hw]; exact h

/-- An entry to MOVING at a move record ends in MOVING, SETTLING, SUSPENDED or IDLE (R44, R45, R47). -/
theorem Underway.enterMoving (h : Underway (ev.slot i) (ev.crusher i)) : Lawful i (ev.enterMoving i).1 := by
  have htended := (Tended.refl i ev).setMotion .moving
  have hmoving : Underway (ev.slot i) ((ev.setMotion i .moving).crusher i) := by
    rw [crusher_setMotion]; exact h.same rfl rfl rfl
  unfold Ev.enterMoving
  dsimp only
  split
  · next p _ _ =>
    refine (htended.moveStep p).lawful ?_
    rcases crusher_moveStep (ev.setMotion i .moving) i p with hc | hc <;> rw [hc]
    · exact hmoving.fits (.inl (by simp))
    · exact Underway.fits (hmoving.same rfl rfl rfl) (.inr (.inl rfl))
  · unfold Ev.positionLost
    dsimp only
    have hheld := (htended.record .positionInvalid).holdDrive.modCrusher (fun c => { c with settle := none })
    set ev' := (((ev.setMotion i .moving).record i .positionInvalid).holdDrive i).modCrusher i (fun c => { c with settle := none }) with hev'
    have hcrusher : ev'.crusher i = { ev.crusher i with motion := .moving, settle := none } := by simp [hev']
    have hlost : Underway (ev'.slot i) (ev'.crusher i) := by
      rw [hcrusher]
      obtain ⟨hmove, hcal, hepisode, hdrains, hstill, hfree⟩ := h
      exact ⟨hmove, hcal, hepisode, by rwa [hheld.kind], by rwa [hheld.kind, hheld.relief], by rwa [hheld.lockout]⟩
    split
    · exact hlost.addCause (by rw [hcrusher]; exact .inr (.inl rfl)) (by rw [hcrusher]; intro hd; cases hd) _
    · exact hlost.finishMove (by rw [hcrusher]; rfl) ..

/-- The drain is over once the cavity is empty, or the jaw waits (R43). -/
theorem Underway.leaveDraining (h : Underway (ev.slot i) (ev.crusher i)) : Lawful i (ev.leaveDraining i).1 := by
  refine Underway.enterMoving ?_
  have ht := (Tended.refl i ev).stopDrainTimers
  obtain ⟨hmove, hcal, hepisode, hdrains, hstill, hfree⟩ := h
  rw [crusher_stopDrainTimers]
  exact ⟨hmove, hcal, hepisode, by rwa [ht.kind], by rwa [ht.kind, ht.relief], by rwa [ht.lockout]⟩

theorem Underway.at {ev' : Ev} (ht : Tended i ev ev') (h : Underway (ev.slot i) (ev'.crusher i)) :
    Underway (ev'.slot i) (ev'.crusher i) := by
  obtain ⟨hmove, hcal, hepisode, hdrains, hstill, hfree⟩ := h
  exact ⟨hmove, hcal, hepisode, by rwa [ht.kind], by rwa [ht.kind, ht.relief], by rwa [ht.lockout]⟩

theorem Underway.enterDraining (h : Underway (ev.slot i) (ev.crusher i)) (hjaw : (ev.slot i).kind = .jaw) :
    Lawful i (ev.enterDraining i).1 := by
  have ht := (((Tended.refl i ev).setMotion .draining).raiseLinked .drain).startDrainTimers
  have hdrain : Underway (ev.slot i) ((((ev.setMotion i .draining).raiseLinked i .drain).startDrainTimers i).crusher i) := by
    rw [crusher_startDrainTimers]; exact h.same (by simp) (by simp) (by simp)
  unfold Ev.enterDraining
  dsimp only
  split
  · exact (hdrain.at ht).leaveDraining
  · exact ht.lawful (hdrain.fits (.inr (.inr (.inr ⟨by simp, hjaw⟩))))

theorem lawful_leaveSuspension (h : Lawful i ev) (hm : (ev.crusher i).motion = .suspended) : Lawful i (ev.leaveSuspension i).1 := by
  have hgoes := h.underway (.inr hm)
  have ht := (Tended.refl i ev).restartTravel
  have htravels : Underway ((ev.restartTravel i).slot i) ((ev.restartTravel i).crusher i) :=
    .at ht (by rw [crusher_restartTravel]; exact hgoes.same rfl rfl rfl)
  unfold Ev.leaveSuspension
  split
  · exact h
  · next m hmove =>
    split
    · next hback => exact htravels.enterDraining (by rw [ht.kind]; exact hgoes.drains m hmove hback)
    · exact htravels.enterMoving
    · split
      · exact lawful_addCause h _
      · exact lawful_finishMove h ..

theorem lawful_testCauses (h : Lawful i ev) : Lawful i (ev.testCauses i).1 := by
  unfold Ev.testCauses
  dsimp only
  split
  · next hs => exact lawful_leaveSuspension h hs.1
  · exact h

/-! ### The start check keeps the law (R41, R42) -/

theorem Underway.launch (h : Underway (ev.slot i) (ev.crusher i)) : Lawful i (ev.launch i).1 := by
  have ht := (Tended.refl i ev).modCrusher (fun c => { c with travel := ev.timer ((ev.slot i).cp.travel * 1000) })
  have htimed := Underway.at ht (by rw [crusher_modCrusher]; exact h.same rfl rfl rfl)
  unfold Ev.launch
  dsimp only
  split
  · next hjaw => exact htimed.enterDraining (by rw [ht.kind]; exact hjaw)
  · exact htimed.enterMoving

theorem Underway.aim (h : Underway (ev.slot i) (ev.crusher i)) (hout : (ev.crusher i).motion.inEpisode = false) (gap : Nat) :
    Lawful i (ev.aim i gap).1 := by
  unfold Ev.aim
  dsimp only
  generalize htold : (if (targetFor (ev.slot i).cp (ev.slot i).crusher.z (ev.slot i).crusher.w (ev.masked i .reach) gap).reach = true
    then ev.record i .reach else ev) = ev'
  have ht : Tended i ev ev' := by subst htold; exact ((Tended.refl i ev).record _).ite (.refl i ev)
  have hcrusher : ev'.crusher i = ev.crusher i := by subst htold; split <;> simp
  have hgoes : Underway (ev'.slot i) (ev'.crusher i) := .at ht (by rw [hcrusher]; exact h)
  split
  · exact hgoes.finishMove (by rw [hcrusher]; exact hout) ..
  · refine Underway.launch (.at ((Tended.refl i ev').onMove _) ?_)
    rw [crusher_onMove]
    obtain ⟨hmove, hcal, hepisode, hdrains, hstill, hfree⟩ := hgoes
    refine ⟨by simpa using hmove, hcal, hepisode, fun m hmem hback => ?_, hstill, hfree⟩
    simp only [Option.mem_def, Option.map_eq_some_iff] at hmem
    obtain ⟨m', hmem', rfl⟩ := hmem
    exact hdrains m' hmem' hback

/-- The head of the queue of a crusher at rest starts (R42). -/
theorem Rests.startHead (h : Rests (ev.slot i) (ev.crusher i)) (hidle : (ev.crusher i).motion = .idle)
    (hfree : (ev.slot i).lockout.state = false) : Lawful i (ev.startHead i).1 := by
  unfold Ev.startHead
  dsimp only
  split
  · exact h.idle hidle
  · next e rest hqueue =>
    generalize hr : resolveEntry _ _ _ _ = r
    generalize hhead : ev.modCrusher i _ = ev'
    have ht : Tended i ev ev' := by
      subst hhead
      exact (Tended.refl i ev).dequeue _ (by rw [Ev.crusher, hqueue]; exact List.sublist_cons_self ..)
    have hgoes : Underway (ev'.slot i) (ev'.crusher i) ∧ (ev'.crusher i).motion = .idle := by
      subst hhead
      refine ⟨.at ht ?_, by simpa using hidle⟩
      rw [crusher_modCrusher]
      exact ⟨rfl, h.cal, h.episode, by simp, h.still, hfree⟩
    generalize htold : (if r.raised = true then ev'.record i .envelope else ev') = ev''
    have ht' : Tended i ev' ev'' := by subst htold; exact ((Tended.refl i ev').record _).ite (.refl i ev')
    have hcrusher : ev''.crusher i = ev'.crusher i := by subst htold; split <;> simp
    have hgoes' : Underway (ev''.slot i) (ev''.crusher i) := .at ht' (by rw [hcrusher]; exact hgoes.1)
    have hout : (ev''.crusher i).motion.inEpisode = false := by rw [hcrusher, hgoes.2]; rfl
    split
    · exact hgoes'.finishMove hout ..
    · exact hgoes'.aim hout _

theorem canStart_free (h : ev.canStart i = true) : (ev.crusher i).motion = .idle ∧ (ev.slot i).lockout.state = false := by
  simp only [Ev.canStart, Bool.and_eq_true, beq_iff_eq, Bool.not_eq_true'] at h
  exact ⟨h.1.1.1.1, h.2⟩

theorem lawful_startCheck (fuel : Nat) {ev : Ev} (h : Lawful i ev) (trim : Bool) : Lawful i (Ev.startCheck fuel ev i trim) := by
  induction fuel generalizing ev trim with
  | zero => exact h
  | succ n ih =>
    unfold Ev.startCheck
    dsimp only
    split
    · next hblock =>
      have ht := (Tended.refl i ev).modCrusher (fun c => { c with wearBlock := false })
      obtain ⟨hmove, hcal, hepisode, hstill⟩ := h.rests (.inl hblock.1)
      refine Rests.enterBlocked ?_ _
      rw [crusher_modCrusher]
      exact ⟨hmove, hcal, hepisode, by rwa [ht.kind, ht.relief]⟩
    · split
      · next hcan =>
        obtain ⟨hidle, hfree⟩ := canStart_free hcan
        have hhead := (h.rests (.inl hidle)).startHead hidle hfree
        split
        · exact hhead
        · exact ih hhead _
      · split
        · next hdue =>
          simp only [Bool.and_eq_true] at hdue
          obtain ⟨-, -, -, hidle, -, -⟩ := (trimDue_iff ev i).1 hdue.2
          refine ih ?_ _
          have ht := (Tended.refl i ev).addTrim hdue.1.1
          refine ht.lawful ?_
          obtain ⟨hmove, hcal, hepisode, hstill⟩ := h.rests (.inl hidle)
          rw [Ev.addTrim, crusher_modCrusher]
          exact Rests.idle ⟨hmove, hcal, hepisode, hstill⟩ hidle
        · exact h

theorem lawful_check (h : Lawful i ev) (trim : Bool) : Lawful i (ev.check i trim) := lawful_startCheck _ h trim

theorem lawful_follow {r : Ev × Option Bool} (h : Lawful i r.1) : Lawful i (Ev.follow r i) := by
  unfold Ev.follow
  split
  · exact h
  · exact lawful_check h _

end

end Sys2Proof.Proofs
end


section
/-! PROOF. The law of a crusher's records through calibrations, relief episodes, lockouts, channels and timers (chapters 3, 4, 5 and 10). -/

namespace Sys2Proof.Proofs

open Sys2Proof Sys2Proof.Machine

set_option Elab.async false

/-! ### Steps that leave what the law reads -/

/-- Two records that the law does not tell apart: state, move and episode agree, a run stands in both or in neither, and an empty queue
stays empty. -/
structure Alike (c c' : Crusher) : Prop where
  motion : c'.motion = c.motion
  move : c'.move = c.move
  cal : c'.cal.isSome = c.cal.isSome
  episode : c'.episode = c.episode
  queue : c.queue = [] → c'.queue = []

theorem Alike.refl (c : Crusher) : Alike c c := ⟨rfl, rfl, rfl, rfl, id⟩

theorem Alike.trans {c c' c'' : Crusher} (h : Alike c c') (h' : Alike c' c'') : Alike c c'' :=
  ⟨h'.motion.trans h.motion, h'.move.trans h.move, h'.cal.trans h.cal, h'.episode.trans h.episode, fun hq => h'.queue (h.queue hq)⟩

theorem Alike.of_eq {c c' : Crusher} (h : c' = c) : Alike c c' := h ▸ .refl c

theorem Fits.alike {x : Slot} {c c' : Crusher} (h : Fits x c) (ha : Alike c c') : Fits x c' := by
  obtain ⟨hmotion, hmove, hcal, hepisode, hqueue⟩ := ha
  have hrun : c.cal = none → c'.cal = none := fun hn => by
    rw [← Option.isNone_iff_eq_none, ← Option.not_isSome, hcal, hn]; rfl
  obtain ⟨hcoherent, hhome, hdrains, hjaw, hlocked⟩ := h
  refine ⟨?_, by rwa [hepisode, hmove], by rwa [hmotion, hmove], by rwa [hepisode], by rwa [hmotion, hmove, hepisode]⟩
  unfold MotionCoherent at hcoherent ⊢
  rw [hmotion, hmove, hcal, hepisode]
  split at hcoherent <;> simp_all

section
variable {ev : Ev} {i : SlotId}

theorem lawful_alike {ev' : Ev} (h : Lawful i ev) (ht : Tended i ev ev') (ha : Alike (ev.crusher i) (ev'.crusher i)) : Lawful i ev' :=
  ht.lawful (h.alike ha)

theorem lawful_modCrusher (h : Lawful i ev) (f : Crusher → Crusher) (ha : Alike (ev.crusher i) (f (ev.crusher i))) :
    Lawful i (ev.modCrusher i f) := by
  unfold Lawful
  rw [crusher_modCrusher, slot_modCrusher]
  exact (h.alike ha).congr rfl rfl rfl

theorem lawful_discardAll (h : Lawful i ev) (r : Reason) : Lawful i (ev.discardAll i r) :=
  lawful_alike h ((Tended.refl i ev).discardAll r) (by rw [crusher_discardAll]; exact ⟨rfl, rfl, rfl, rfl, fun _ => rfl⟩)

/-! ### Calibrations (R85 to R93) -/

theorem alike_onCal (ev : Ev) (i : SlotId) (f : CalRun → CalRun) : Alike (ev.crusher i) ((ev.onCal i f).crusher i) := by
  rw [crusher_onCal]; exact ⟨rfl, rfl, by simp, rfl, id⟩

theorem alike_startTravel (ev : Ev) (i : SlotId) : Alike (ev.crusher i) ((ev.startTravel i).crusher i) := by
  rw [crusher_startTravel]; exact ⟨rfl, rfl, rfl, rfl, id⟩

theorem alike_calDrive (ev : Ev) (i : SlotId) (slowly : Bool) (target : Int) (p : Nat) :
    Alike (ev.crusher i) ((ev.calDrive i slowly target p).crusher i) := by
  unfold Ev.calDrive
  dsimp only
  split
  · exact .of_eq (crusher_driveGuarded ..)
  · rw [crusher_modCrusher, crusher_holdDrive]; exact ⟨rfl, rfl, rfl, rfl, id⟩

theorem alike_enterBackoff (ev : Ev) (i : SlotId) (contact : Nat) : Alike (ev.crusher i) ((ev.enterBackoff i contact).crusher i) := by
  unfold Ev.enterBackoff
  refine Alike.trans ?_ (((alike_onCal ..).trans (alike_startTravel ..)).trans (alike_calDrive ..))
  split
  · exact .of_eq (crusher_record ..)
  · exact .refl _

theorem alike_contact (ev : Ev) (i : SlotId) (zNew : Nat) : Alike (ev.crusher i) ((ev.contact i zNew).crusher i) := by
  unfold Ev.contact
  dsimp only
  refine Alike.trans ?_ (alike_enterBackoff ..)
  split <;> split <;> simp <;> exact ⟨rfl, rfl, by simp, rfl, id⟩

theorem alike_enterReopen (ev : Ev) (i : SlotId) (p : Nat) : Alike (ev.crusher i) ((ev.enterReopen i p).crusher i) := by
  unfold Ev.enterReopen
  exact ((alike_onCal ..).trans (alike_startTravel ..)).trans (alike_calDrive ..)

theorem alike_approachReading (ev : Ev) (i : SlotId) (run : CalRun) (p : Nat) :
    Alike (ev.crusher i) ((ev.approachReading i run p).crusher i) := by
  unfold Ev.approachReading
  split
  · exact Alike.trans (.of_eq (by simp)) (alike_enterReopen ..)
  · split
    · exact alike_contact ..
    · exact alike_onCal ..

theorem alike_calReading (ev : Ev) (i : SlotId) (p : Nat) : Alike (ev.crusher i) ((ev.calReading i p).crusher i) := by
  unfold Ev.calReading
  dsimp only
  split
  · exact .refl _
  · split
    · exact .refl _
    · exact alike_approachReading ..
    · split
      · exact .refl _
      · exact alike_calDrive ..
    · split
      · exact .refl _
      · exact alike_calDrive ..

/-- A run that ends leaves IDLE, with its timers stopped (R93). -/
theorem crusher_endCal {ev : Ev} {i : SlotId} {run : CalRun} (h : (ev.crusher i).cal = some run) (d : Disposition) (r : Reason) :
    (ev.endCal i d r).crusher i = { (ev.crusher i).stopMoveTimers with cal := none, motion := .idle } := by
  simp only [Ev.endCal, h]
  simp

theorem endCal_none {ev : Ev} {i : SlotId} (h : (ev.crusher i).cal = none) (d : Disposition) (r : Reason) : ev.endCal i d r = ev := by
  simp only [Ev.endCal, h]

/-- A run stands in CALIBRATING alone, with no move and no episode. -/
theorem Fits.calibrates {x : Slot} {c : Crusher} (h : Fits x c) (hcal : c.cal.isSome = true) :
    c.motion = .calibrating ∧ c.move = none ∧ c.episode = none := by
  have hc := h.coherent
  unfold MotionCoherent at hc
  cases hm : c.motion <;> rw [hm] at hc <;> simp_all

theorem lawful_endCal (h : Lawful i ev) (d : Disposition) (r : Reason) : Lawful i (ev.endCal i d r) := by
  cases hcal : (ev.crusher i).cal with
  | none => rw [endCal_none hcal]; exact h
  | some run =>
    obtain ⟨-, hmove, hepisode⟩ := h.calibrates (by rw [hcal]; rfl)
    refine ((Tended.refl i ev).endCal d r).lawful ?_
    rw [crusher_endCal hcal]
    exact Rests.idle ⟨hmove, rfl, hepisode, fun hk => (h.jaw hk).2⟩ rfl

theorem lawful_failCal (h : Lawful i ev) (r : Reason) : Lawful i (ev.failCal i r) := lawful_check (lawful_endCal h ..) _

theorem lawful_enterApproach (h : Lawful i ev) : Lawful i (ev.enterApproach i) := by
  have ht := (Tended.refl i ev).stopDrainTimers.onCal (fun r => { r with stage := .approach, stageAt := (ev.stopDrainTimers i).now })
  have hstage := lawful_alike h ht (by rw [crusher_onCal, crusher_stopDrainTimers]; exact ⟨rfl, rfl, by simp, rfl, id⟩)
  unfold Ev.enterApproach
  dsimp only
  split
  · refine lawful_alike hstage ((((Tended.refl i _).onCal _).startTravel).setDrive _) ?_
    rw [crusher_setDrive]
    exact (alike_onCal ..).trans (alike_startTravel ..)
  · exact lawful_failCal (lawful_alike hstage ((Tended.refl i _).record _) (.of_eq (crusher_record ..))) _

theorem lawful_enterCalDrain (h : Lawful i ev) : Lawful i (ev.enterCalDrain i) := by
  have hdrains := lawful_alike h ((Tended.refl i ev).raiseLinked .calibrate).startDrainTimers
    (by rw [crusher_startDrainTimers, crusher_raiseLinked]; exact ⟨rfl, rfl, rfl, rfl, id⟩)
  unfold Ev.enterCalDrain
  dsimp only
  split
  · exact lawful_enterApproach hdrains
  · exact hdrains

theorem lawful_record (h : Lawful i ev) (k : Cond) : Lawful i (ev.record i k) :=
  lawful_alike h ((Tended.refl i ev).record k) (.of_eq (crusher_record ..))

theorem lawful_holdDrive (h : Lawful i ev) : Lawful i (ev.holdDrive i) :=
  lawful_alike h (Tended.refl i ev).holdDrive (.of_eq (crusher_holdDrive ..))

theorem lawful_calLost (h : Lawful i ev) : Lawful i (ev.calLost i) := by
  unfold Ev.calLost
  split
  · exact h
  · split
    · exact h
    · exact lawful_failCal (lawful_record (lawful_holdDrive h) _) _
    · exact lawful_failCal (lawful_record (lawful_holdDrive h) _) _
    · refine lawful_alike h (((Tended.refl i ev).holdDrive.modCrusher _).record _) ?_
      rw [crusher_record, crusher_modCrusher, crusher_holdDrive]
      exact ⟨rfl, rfl, rfl, rfl, id⟩

theorem lawful_calDrive (h : Lawful i ev) (slowly : Bool) (target : Int) (p : Nat) : Lawful i (ev.calDrive i slowly target p) :=
  lawful_alike h ((Tended.refl i ev).calDrive ..) (alike_calDrive ..)

theorem lawful_calSettled (h : Lawful i ev) : Lawful i (ev.calSettled i) := by
  unfold Ev.calSettled
  dsimp only
  split
  · split
    · split
      · exact lawful_failCal h _
      · exact lawful_calDrive h ..
    · split
      · exact lawful_check (lawful_endCal h ..) _
      · exact lawful_calDrive h ..
    · exact h
  · exact h

theorem lawful_calTravelOut (h : Lawful i ev) : Lawful i (ev.calTravelOut i) := by
  unfold Ev.calTravelOut
  split
  · exact h
  · exact lawful_failCal (lawful_record (lawful_holdDrive h) _) _

/-! ### Wear (R80 to R82) -/

theorem lawful_wearCeiling (h : Lawful i ev) : Lawful i (ev.wearCeiling i) := by
  have hrecorded := lawful_record h .wearLimit
  unfold Ev.wearCeiling
  dsimp only
  split
  · exact hrecorded
  · split
    · next hidle => exact (hrecorded.rests (.inl hidle)).enterBlocked _
    · exact hrecorded
    · exact lawful_alike hrecorded ((Tended.refl i _).modCrusher _) (by rw [crusher_modCrusher]; exact ⟨rfl, rfl, rfl, rfl, id⟩)

theorem lawful_addTrim (h : Lawful i ev) (hidle : (ev.crusher i).motion = .idle) (hempty : (ev.crusher i).queue = []) :
    Lawful i (ev.addTrim i) := by
  refine ((Tended.refl i ev).addTrim (by rw [hempty]; rfl)).lawful ?_
  obtain ⟨hmove, hcal, hepisode, hstill⟩ := h.rests (.inl hidle)
  rw [Ev.addTrim, crusher_modCrusher]
  exact Rests.idle ⟨hmove, hcal, hepisode, hstill⟩ hidle

theorem lawful_evaluateTrim (h : Lawful i ev) : Lawful i (ev.evaluateTrim i) := by
  unfold Ev.evaluateTrim
  split
  · next hdue =>
    obtain ⟨-, -, -, hidle, hqueue, -⟩ := (trimDue_iff ev i).1 hdue
    exact lawful_check (lawful_addTrim h hidle hqueue) _
  · exact h

theorem lawful_wearCarry (h : Lawful i ev) : Lawful i (ev.wearCarry i) := by
  unfold Ev.wearCarry
  dsimp only
  split
  · have hworn : Lawful i ((ev.modCrusher i (fun c => { c with w := c.w + 1 })).markDirty (.wear i)) :=
      lawful_modCrusher h (fun c => { c with w := c.w + 1 }) ⟨rfl, rfl, rfl, rfl, id⟩
    split
    · exact lawful_evaluateTrim (lawful_wearCeiling hworn)
    · exact lawful_evaluateTrim hworn
  · exact lawful_wearCeiling h

theorem lawful_tonnagePulse (h : Lawful i ev) : Lawful i (ev.tonnagePulse i) := by
  unfold Ev.tonnagePulse
  dsimp only
  split
  · exact lawful_wearCarry (lawful_modCrusher h _ ⟨rfl, rfl, rfl, rfl, id⟩)
  · exact lawful_modCrusher h _ ⟨rfl, rfl, rfl, rfl, id⟩

/-! ### Relief episodes (chapter 4) -/

theorem alike_stopRestart (ev : Ev) (i : SlotId) : Alike (ev.crusher i) ((ev.stopRestart i).crusher i) := by
  unfold Ev.stopRestart
  split
  · rw [crusher_lowerLinked, crusher_modCrusher]; exact ⟨rfl, rfl, rfl, rfl, id⟩
  · exact .refl _

theorem alike_recoverStep (ev : Ev) (i : SlotId) (p : Nat) : Alike (ev.crusher i) ((ev.recoverStep i p).crusher i) := by
  unfold Ev.recoverStep
  dsimp only
  split
  · exact .refl _
  · split
    · exact .of_eq (crusher_driveTo ..)
    · rw [crusher_modCrusher, crusher_holdDrive]; exact ⟨rfl, rfl, rfl, rfl, id⟩

/-- Within an episode the slot is no jaw (R62). -/
theorem Fits.noJaw {x : Slot} {c : Crusher} (h : Fits x c) (hm : c.motion.inEpisode = true) : x.kind ≠ .jaw := fun hk => by
  have hsome := (h.episode hm).2
  rw [(h.jaw hk).1] at hsome
  cases hsome

/-- A crusher in an episode that may run under a released lockout input. -/
theorem Fits.recovers {x : Slot} {c c' : Crusher} (h : Fits x c) (hm : c.motion.inEpisode = true) (hfree : x.lockout.state = false)
    (hmotion : c'.motion.inEpisode = true) (hmove : c'.move = c.move) (hcal : c'.cal = c.cal)
    (hepisode : ∃ f : Episode → Episode, c'.episode = c.episode.map f ∧ ∀ e, (f e).returnTo = e.returnTo ∧ (f e).abandoned = e.abandoned) :
    Fits x c' := by
  obtain ⟨f, hf, hkeep⟩ := hepisode
  obtain ⟨hrun, hopen⟩ := h.episode hm
  refine ⟨?_, fun e he hback => ?_, ?_, fun hk => absurd hk (h.noJaw hm), by simp [hfree]⟩
  · unfold MotionCoherent
    rcases (inEpisode_iff _).1 hmotion with hs | hs <;> rw [hs] <;> simp [hcal, hrun, hf, hopen]
  · rw [hf, Option.mem_def, Option.map_eq_some_iff] at he
    obtain ⟨e', he', rfl⟩ := he
    rw [(hkeep e').1, (hkeep e').2] at hback
    rw [hmove]
    exact h.home e' he' hback
  · rintro (hd | hd)
    · rw [hd] at hmotion; cases hmotion
    · rw [hmove] at hd; exact h.drains (.inr hd)

theorem lawful_enterRecovering (h : Lawful i ev) (hin : (ev.crusher i).motion.inEpisode = true)
    (hfree : (ev.slot i).lockout.state = false) : Lawful i (ev.enterRecovering i) := by
  have ht := (((Tended.refl i ev).onEpisode (fun e => { e with
    target := (ev.slot i).crusher.recoveryAim.map (fun t => min t (ev.slot i).closeLimit) })).setMotion .recovering).startTravel.modCrusher
    (fun c => { c with settle := none })
  have hset : Lawful i ((((ev.onEpisode i (fun e => { e with
      target := (ev.slot i).crusher.recoveryAim.map (fun t => min t (ev.slot i).closeLimit) })).setMotion i .recovering).startTravel i).modCrusher i
      (fun c => { c with settle := none })) := by
    refine ht.lawful (h.recovers hin hfree ?_ ?_ ?_ ⟨(fun e => { e with
      target := (ev.slot i).crusher.recoveryAim.map (fun t => min t (ev.slot i).closeLimit) }), ?_, fun e => ⟨rfl, rfl⟩⟩) <;> simp
    rfl
  unfold Ev.enterRecovering
  dsimp only
  split
  · exact lawful_alike hset ((Tended.refl i _).recoverStep _) (alike_recoverStep ..)
  · exact hset

/-- A move that an episode carries ends, and the episode closes: the crusher is at rest (R67, R71). -/
theorem Fits.closes {ev : Ev} {i : SlotId} (h : Lawful i ev) (hin : (ev.crusher i).motion.inEpisode = true) (d : Disposition) (r : Reason) :
    ((ev.finishMove i d r).1.crusher i).move = none ∧ ((ev.finishMove i d r).1.crusher i).cal = none := by
  obtain ⟨hcal, -⟩ := h.episode hin
  cases hm : (ev.crusher i).move with
  | none => rw [finishMove_none hm]; exact ⟨hm, hcal⟩
  | some m =>
    rw [crusher_finishMove_episode hm hin]
    refine ⟨rfl, ?_⟩
    split <;> exact hcal

theorem lawful_trampRepeat (h : Lawful i ev) (hin : (ev.crusher i).motion.inEpisode = true) : Lawful i (ev.trampRepeat i) := by
  have hrecorded := lawful_record h .trampRepeat
  have hends := hrecorded.closes (by rwa [crusher_record]) .failed .trampRepeat
  have ht := ((((Tended.refl i ev).record .trampRepeat).finishMove .failed .trampRepeat).modCrusher (fun c => { c with episode := none }))
  have hrests : Rests (ev.slot i) ((((ev.record i .trampRepeat).finishMove i .failed .trampRepeat).1.modCrusher i
      (fun c => { c with episode := none })).crusher i) := by
    rw [crusher_modCrusher]; exact ⟨hends.1, hends.2, rfl, fun hk => (h.jaw hk).2⟩
  unfold Ev.trampRepeat
  exact Rests.enterBlocked ⟨hrests.move, hrests.cal, hrests.episode, by rw [ht.kind, ht.relief]; exact hrests.still⟩ _

theorem alike_prune (ev : Ev) (i : SlotId) : Alike (ev.crusher i) ((ev.prune i).crusher i) := by
  rw [Ev.prune, crusher_modCrusher]; exact ⟨rfl, rfl, rfl, rfl, id⟩

theorem lawful_reliefOver (h : Lawful i ev) (hm : (ev.crusher i).motion = .relief) : Lawful i (ev.reliefOver i) := by
  have hpruned := lawful_alike h (Tended.refl i ev).prune (alike_prune ev i)
  have hstill : ((ev.prune i).crusher i).motion = .relief := by rw [(alike_prune ev i).motion, hm]
  have hin : ((ev.prune i).crusher i).motion.inEpisode = true := by rw [hstill]; rfl
  obtain ⟨hcal, hopen⟩ := hpruned.episode hin
  unfold Ev.reliefOver
  dsimp only
  split
  · next habandoned =>
    simp only [Option.any_eq_true] at habandoned
    obtain ⟨e, he, habandoned⟩ := habandoned
    have hmove := hpruned.home e he (.inr habandoned)
    have ht := ((Tended.refl i (ev.prune i)).modCrusher (fun c => { c with episode := none })).setMotion .idle
    have hclosed : Lawful i (((ev.prune i).modCrusher i (fun c => { c with episode := none })).setMotion i .idle) := by
      refine ht.lawful ?_
      rw [crusher_setMotion, crusher_modCrusher]
      exact Rests.idle ⟨hmove, hcal, rfl, fun hk => (hpruned.jaw hk).2⟩ rfl
    exact lawful_check (lawful_alike hclosed (((Tended.refl i _).lowerLinked _).reliefNotice _)
      (.of_eq (by rw [crusher_reliefNotice, crusher_lowerLinked]))) _
  · next hkept =>
    split
    · exact lawful_trampRepeat hpruned hin
    · refine lawful_alike (lawful_enterRecovering hpruned hin ?_) ((Tended.refl i _).reliefNotice _) (.of_eq (crusher_reliefNotice ..))
      refine (Bool.not_eq_true _).mp (fun hlock => ?_)
      obtain ⟨e, he⟩ := Option.isSome_iff_exists.1 hopen
      rcases hpruned.locked hlock with ⟨-, -, hall⟩ | hidle | ⟨b, hb⟩
      · exact hkept (by rw [Option.any_eq_true]; exact ⟨e, he, hall e he⟩)
      · rw [hstill] at hidle; cases hidle
      · rw [hstill] at hb; cases hb

theorem lawful_reliefEnd (h : Lawful i ev) : Lawful i (ev.reliefEnd i) := by
  unfold Ev.reliefEnd
  split
  · next hm => exact lawful_reliefOver h hm
  · exact lawful_alike h ((Tended.refl i _).reliefNotice _) (.of_eq (crusher_reliefNotice ..))
  · exact lawful_alike h ((Tended.refl i _).reliefNotice _) (.of_eq (crusher_reliefNotice ..))
  · exact lawful_alike h (((Tended.refl i _).lowerLinked _).reliefNotice _) (.of_eq (by rw [crusher_reliefNotice, crusher_lowerLinked]))
  · refine lawful_alike h (((Tended.refl i _).prune.lowerLinked _).reliefNotice _) ?_
    rw [crusher_reliefNotice, crusher_lowerLinked]
    exact alike_prune ev i

theorem lawful_afterRecovery {back : EpisodeReturn} (hcal : (ev.crusher i).cal = none) (hepisode : (ev.crusher i).episode = none)
    (hstill : (ev.slot i).kind = .jaw → (ev.slot i).relief.timer = none)
    (hhome : back = .idle → (ev.crusher i).move = none)
    (hgoes : (ev.crusher i).move ≠ none → (ev.slot i).lockout.state = false ∧
      ∀ m ∈ (ev.crusher i).move, m.returnTo = .draining → (ev.slot i).kind = .jaw) : Lawful i (ev.afterRecovery i back) := by
  have hidle : (ev.crusher i).move = none → Lawful i (ev.setMotion i .idle) := fun hmove => by
    refine ((Tended.refl i ev).setMotion _).lawful ?_
    rw [crusher_setMotion]
    exact Rests.idle ⟨hmove, hcal, hepisode, hstill⟩ rfl
  unfold Ev.afterRecovery
  dsimp only
  split
  · exact lawful_check (hidle (hhome rfl)) _
  · next hmove => exact lawful_check (hidle hmove) _
  · next m _ hmove =>
    have hmove : (ev.crusher i).move = some m := hmove
    obtain ⟨hfree, hdrains⟩ := hgoes (by rw [hmove]; simp)
    have hunder : Underway (ev.slot i) (ev.crusher i) := ⟨by rw [hmove]; rfl, hcal, hepisode, hdrains, hstill, hfree⟩
    split
    · have ht := (((Tended.refl i ev).holdDrive.setMotion .suspended).modCrusher
        (fun c => { c with suspension := ((ev.holdDrive i).setMotion i .suspended).timer ((ev.slot i).cp.suspLimit * 1000) })).onMove
        (fun m => { m with returnTo := .moving, remaining := (ev.slot i).cp.travel * 1000 })
      refine ht.lawful (Underway.fits ?_ (.inr (.inr (.inl (by simp)))))
      refine ⟨by simp [hmove], by simpa using hcal, by simpa using hepisode, fun m' hm' hback => ?_, hstill, hfree⟩
      simp [hmove] at hm'
      subst hm'
      cases hback
    · split
      · have ht := (Tended.refl i ev).setMotion .moving
        refine lawful_follow ?_
        unfold Ev.finishDone
        have hmoving : Underway ((ev.setMotion i .moving).slot i) ((ev.setMotion i .moving).crusher i) := .at ht (by
          rw [crusher_setMotion]; exact hunder.same rfl rfl rfl)
        split <;> exact hmoving.finishMove (by rw [crusher_setMotion]; rfl) ..
      · exact lawful_follow (Underway.enterMoving (.at (Tended.refl i ev).startTravel (by
          rw [crusher_startTravel]; exact hunder.same rfl rfl rfl)))

theorem lawful_completeRecovery (h : Lawful i ev) (hm : (ev.crusher i).motion = .recovering) : Lawful i (ev.completeRecovery i) := by
  have hin : (ev.crusher i).motion.inEpisode = true := by rw [hm]; rfl
  obtain ⟨hcal, hopen⟩ := h.episode hin
  obtain ⟨e, he⟩ := Option.isSome_iff_exists.1 hopen
  have ht := (((Tended.refl i ev).modCrusher (fun c => { c with
    travel := none, settle := none, episode := none, restart := ev.timer ((ev.slot i).cp.restartDelay * 1000) })).lowerLinked
      .relief).raiseLinked .recoveryDelay
  unfold Ev.completeRecovery
  dsimp only
  apply lawful_afterRecovery
  · simpa using hcal
  · simp
  · rw [ht.kind, ht.relief]; exact fun hk => (h.jaw hk).2
  · intro hback
    simpa using h.home e he (.inl (by simpa [he] using hback))
  · intro hmove
    rw [ht.kind, ht.lockout]
    refine ⟨h.carries hin (by simpa using hmove), fun m hmem hback => h.drains (.inr ⟨m, by simpa using hmem, hback⟩)⟩

theorem lawful_recoverySettled (h : Lawful i ev) (hm : (ev.crusher i).motion = .recovering) : Lawful i (ev.recoverySettled i) := by
  unfold Ev.recoverySettled
  dsimp only
  split
  · split
    · exact lawful_completeRecovery h hm
    · exact lawful_alike h ((Tended.refl i ev).recoverStep _) (alike_recoverStep ..)
  · exact h

theorem lawful_failRecovery (h : Lawful i ev) (hm : (ev.crusher i).motion = .recovering) : Lawful i (ev.failRecovery i) := by
  have hstopped : Lawful i ((ev.stopMotion i).record i .moveTimeout) := by
    refine lawful_alike h ((Tended.refl i ev).stopMotion.record _) ?_
    rw [crusher_record, crusher_stopMotion]
    exact ⟨rfl, rfl, rfl, rfl, id⟩
  have hends := hstopped.closes (by rw [crusher_record, crusher_stopMotion]; show (ev.crusher i).motion.inEpisode = true; rw [hm]; rfl)
    .failed .timeout
  have ht := (((Tended.refl i ev).stopMotion.record .moveTimeout).finishMove .failed .timeout).modCrusher (fun c => { c with episode := none })
  unfold Ev.failRecovery
  refine Rests.enterBlocked ⟨?_, ?_, ?_, by rw [ht.kind, ht.relief]; exact fun hk => (h.jaw hk).2⟩ _
  all_goals rw [crusher_modCrusher]
  · exact hends.1
  · exact hends.2

/-- The return state that an opening episode records is IDLE only where no move stands (R65). -/
theorem Fits.returns {x : Slot} {c : Crusher} (h : Fits x c) (hkind : x.kind ≠ .jaw) (hout : c.motion.inEpisode = false)
    (hback : c.motion.episodeReturn = .idle) : c.move = none := by
  rcases motion_cases c.motion with hrest | (hflight | hwait) | hin
  · exact h.moveless hrest
  · rcases hflight with hd | hd | hd
    · exact absurd (h.drains (.inl hd)) hkind
    · rw [hd] at hback; cases hback
    · rw [hd] at hback; cases hback
  · rw [hwait] at hback; cases hback
  · rw [hin] at hout; cases hout

/-- An asserted lockout input leaves no move. -/
theorem Fits.barred {x : Slot} {c : Crusher} (h : Fits x c) (hlock : x.lockout.state = true) : c.move = none := by
  rcases h.locked hlock with ⟨-, hmove, -⟩ | hidle | hblocked
  · exact hmove
  · exact h.moveless (.inl hidle)
  · exact h.moveless (.inr (.inr hblocked))

/-- An episode opens, or one goes on, at a crusher whose run has ended (R64, R65, R74). -/
theorem Fits.opens {ev' : Ev} {prior : Motion} (h : Lawful i ev) (hkind : (ev.slot i).kind ≠ .jaw) (ht : Tended i ev ev')
    (hprior : prior = (ev.crusher i).motion) (hmove : (ev'.crusher i).move = (ev.crusher i).move) (hcal : (ev'.crusher i).cal = none)
    (hepisode : (ev'.crusher i).episode = (ev.crusher i).episode) :
    Lawful i (((ev'.openEpisode i prior).setMotion i .relief).reliefNotice i none) := by
  subst hprior
  have hlockout := ht.lockout i
  obtain ⟨e, hopens, hhome, hlocked⟩ : ∃ e, ((ev'.openEpisode i (ev.crusher i).motion).crusher i) = { ev'.crusher i with episode := some e }
      ∧ (e.returnTo = .idle ∨ e.abandoned = true → (ev.crusher i).move = none)
      ∧ ((ev.slot i).lockout.state = true → e.abandoned = true) := by
    unfold Ev.openEpisode
    dsimp only
    split
    · next e he =>
      have he' : (ev'.crusher i).episode = some e := he
      refine ⟨{ e with target := none, abandoned := e.abandoned || (ev'.slot i).lockout.state }, by rw [crusher_onEpisode, he']; rfl, ?_, ?_⟩
      · rintro (hback | habandoned)
        · exact h.home e (by rw [← hepisode]; exact he) (.inl hback)
        · rw [Bool.or_eq_true, hlockout] at habandoned
          rcases habandoned with ha | hl
          · exact h.home e (by rw [← hepisode]; exact he) (.inr ha)
          · exact h.barred hl
      · intro hl; rw [hlockout, hl]; simp
    · next he =>
      have hnone : (ev.crusher i).episode = none := by rw [← hepisode]; exact he
      refine ⟨_, crusher_modCrusher .., ?_, fun hl => by rw [hlockout]; exact hl⟩
      rintro (hback | habandoned)
      · refine h.returns hkind ?_ hback
        refine (Bool.not_eq_true _).mp (fun hin => ?_)
        have hsome := (h.episode hin).2
        rw [hnone] at hsome
        cases hsome
      · rw [hlockout] at habandoned; exact h.barred habandoned
  refine ((ht.openEpisode (ev.crusher i).motion).setMotion .relief |>.reliefNotice none).lawful ?_
  rw [crusher_reliefNotice, crusher_setMotion, hopens]
  refine ⟨?_, fun e' he' hback => ?_, ?_, fun hk => absurd hk hkind, fun hl => .inl ⟨rfl, ?_, fun e' he' => ?_⟩⟩
  · unfold MotionCoherent; exact ⟨hcal, rfl⟩
  · cases he'; exact hmove.trans (hhome hback)
  · rintro (hd | hd)
    · cases hd
    · exact h.drains (.inr (by rw [← hmove]; exact hd))
  · exact hmove.trans (h.barred hl)
  · cases he'; exact hlocked hl

theorem lawful_reliefStart (h : Lawful i ev) (hkind : (ev.slot i).kind ≠ .jaw) : Lawful i (ev.reliefStart i) := by
  have ht := ((Tended.refl i ev).modCrusher (fun c => { c with history := appendHistory c.history ev.s.lineClock })).stopRestart
  have ha := Alike.trans (c := ev.crusher i) (c' := (ev.modCrusher i (fun c =>
    { c with history := appendHistory c.history ev.s.lineClock })).crusher i)
    (by rw [crusher_modCrusher]; exact ⟨rfl, rfl, rfl, rfl, id⟩) (alike_stopRestart _ i)
  unfold Ev.reliefStart
  dsimp only
  set ev' := (ev.modCrusher i (fun c => { c with history := appendHistory c.history ev.s.lineClock })).stopRestart i
  split
  · refine lawful_alike h ((ht.raiseLinked _).reliefNotice _) ?_
    rw [crusher_reliefNotice, crusher_raiseLinked]
    exact ha
  · next hnot =>
    generalize hheld : (if (ev'.slot i).lockout.state = true then ev' else ev'.raiseLinked i .relief) = ev''
    have ht' : Tended i ev ev'' := by subst hheld; exact ht.ite (ht.raiseLinked _)
    have ha' : Alike (ev.crusher i) ((ev''.stopMotion i).crusher i) := by
      have heq : ev''.crusher i = ev'.crusher i := by subst hheld; split <;> simp
      rw [crusher_stopMotion, heq]
      exact ha.trans ⟨rfl, rfl, rfl, rfl, id⟩
    split
    · next hcalibrates =>
      have hrun : (ev.crusher i).cal.isSome = true := by
        have hc := h.coherent
        unfold MotionCoherent at hc
        rw [hcalibrates] at hc
        exact hc.2.1
      obtain ⟨run, hrun'⟩ := Option.isSome_iff_exists.1 (ha'.cal.trans hrun)
      refine h.opens hkind (ht'.stopMotion.endCal ..) rfl ?_ ?_ ?_
      all_goals rw [crusher_endCal hrun']
      · exact ha'.move
      · exact ha'.episode
    · next hother =>
      refine h.opens hkind ht'.stopMotion rfl ha'.move ?_ ha'.episode
      rw [← Option.isNone_iff_eq_none, ← Option.not_isSome, ha'.cal, Bool.not_eq_true', Option.isSome_eq_false_iff, Option.isNone_iff_eq_none]
      refine Decidable.byContradiction (fun hsome => hother (h.calibrates ?_).1)
      exact Option.isSome_iff_ne_none.2 hsome

/-! ### Lockouts (R54, R74) -/

/-- A move that an episode carries ends within it: the records it leaves (R73). -/
theorem Fits.ends {x : Slot} (h : Fits x (ev.crusher i)) (hin : (ev.crusher i).motion.inEpisode = true) (d : Disposition) (r : Reason) :
    ((ev.finishMove i d r).1.crusher i).move = none ∧ ((ev.finishMove i d r).1.crusher i).cal = none
      ∧ ((ev.finishMove i d r).1.crusher i).motion = (ev.crusher i).motion
      ∧ ((ev.finishMove i d r).1.crusher i).episode.isSome = true := by
  obtain ⟨hcal, hopen⟩ := h.episode hin
  cases hm : (ev.crusher i).move with
  | none => rw [finishMove_none hm]; exact ⟨hm, hcal, rfl, hopen⟩
  | some m =>
    rw [crusher_finishMove_episode hm hin]
    refine ⟨rfl, ?_, ?_, by simpa using hopen⟩
    · split <;> exact hcal
    · split <;> rfl

/-- Outside an episode the end of a move, where one stands, leaves IDLE (R51). -/
theorem Fits.idles {x : Slot} (h : Fits x (ev.crusher i)) (hm : (ev.crusher i).motion = .idle ∨ InFlight (ev.crusher i).motion
    ∨ (ev.crusher i).motion = .suspended) (d : Disposition) (r : Reason) :
    ((ev.finishMove i d r).1.crusher i).motion = .idle ∧ ((ev.finishMove i d r).1.crusher i).move = none
      ∧ ((ev.finishMove i d r).1.crusher i).cal = none ∧ ((ev.finishMove i d r).1.crusher i).episode = none := by
  rcases hm with hidle | hgoes
  · have hrests := h.rests (.inl hidle)
    rw [finishMove_none hrests.move]
    exact ⟨hidle, hrests.move, hrests.cal, hrests.episode⟩
  · have hunder := h.underway hgoes
    obtain ⟨m, hm⟩ := Option.isSome_iff_exists.1 hunder.move
    rw [crusher_finishMove hm (outside_of_underway hgoes)]
    have hcal := hunder.cal
    have hepisode := hunder.episode
    refine ⟨rfl, rfl, ?_, ?_⟩ <;> split <;> assumption

theorem lawful_lockoutRelief {x : Slot} (h : Fits x (ev.crusher i)) (hkind : (ev.slot i).kind = x.kind)
    (hm : (ev.crusher i).motion = .relief) :
    Lawful i ((((ev.finishMove i .failed .lockout).1.discardAll i .lockout).onEpisode i (fun e => { e with abandoned := true })).lowerLinked i
      .relief) := by
  have hin : (ev.crusher i).motion.inEpisode = true := by rw [hm]; rfl
  obtain ⟨hmove, hcal, hmotion, hopen⟩ := h.ends hin .failed .lockout
  have hcone : (ev.slot i).kind ≠ .jaw := by rw [hkind]; exact h.noJaw hin
  refine (((((Tended.refl i ev).finishMove _ _).discardAll _).onEpisode _).lowerLinked _).lawful ?_
  rw [crusher_lowerLinked, crusher_onEpisode, crusher_discardAll]
  refine ⟨?_, fun _ _ _ => hmove, ?_, fun hk => absurd hk hcone, fun _ => .inl ⟨hmotion.trans hm, hmove, fun e he => ?_⟩⟩
  · unfold MotionCoherent
    dsimp only
    rw [hmotion, hm]
    exact ⟨hcal, by simpa using hopen⟩
  · dsimp only
    rw [hmotion, hm, hmove]
    simp
  · rw [Option.mem_def, Option.map_eq_some_iff] at he
    obtain ⟨e', -, rfl⟩ := he
    rfl

/-- What a lockout ends leaves the crusher IDLE, BLOCKED or in an abandoned RELIEF, whatever the input `x` stood at before. -/
theorem lawful_lockoutWork {x : Slot} (h : Fits x (ev.crusher i)) (hkind : (ev.slot i).kind = x.kind)
    (hrelief : (ev.slot i).relief = x.relief) : Lawful i (ev.lockoutWork i) := by
  have hstill : (ev.slot i).kind = .jaw → (ev.slot i).relief.timer = none := by
    rw [hkind, hrelief]; exact fun hk => (h.jaw hk).2
  have hidles : ∀ {ev' : Ev}, Tended i ev ev' → (ev'.crusher i).motion = .idle → (ev'.crusher i).move = none → (ev'.crusher i).cal = none →
      (ev'.crusher i).episode = none → Lawful i ev' := fun ht hm hmove hcal hepisode =>
    ht.lawful (Rests.idle ⟨hmove, hcal, hepisode, hstill⟩ hm)
  unfold Ev.lockoutWork
  split
  · next b hm =>
    obtain ⟨hmove, hcal, hepisode, hqueue⟩ := (by have hc := h.coherent; unfold MotionCoherent at hc; rwa [hm] at hc :
      (ev.crusher i).move = none ∧ (ev.crusher i).cal = none ∧ (ev.crusher i).episode = none ∧ (ev.crusher i).queue = [])
    exact Rests.blocked ⟨hmove, hcal, hepisode, hstill⟩ hm hqueue
  · next hm => exact lawful_lockoutRelief h hkind hm
  · next hm =>
    have hin : (ev.crusher i).motion.inEpisode = true := by rw [hm]; rfl
    refine hidles ((((((Tended.refl i ev).finishMove _ _).discardAll _).stopMotion.modCrusher _)).setMotion _ |>.lowerLinked _) ?_ ?_ ?_ ?_
    all_goals simp [Crusher.stopMoveTimers]
    · exact (h.ends hin ..).1
    · exact (h.ends hin ..).2.1
  · next hm =>
    have hrun : (ev.crusher i).cal.isSome = true := by
      have hc := h.coherent; unfold MotionCoherent at hc; rw [hm] at hc; exact hc.2.1
    obtain ⟨run, hrun'⟩ := Option.isSome_iff_exists.1 hrun
    obtain ⟨-, hmove, hepisode⟩ := h.calibrates hrun
    have hcrusher := crusher_endCal (ev := ev.discardAll i .lockout) (i := i) (run := run) (by rw [crusher_discardAll]; exact hrun') .failed .lockout
    refine hidles (((Tended.refl i ev).discardAll _).endCal ..) ?_ ?_ ?_ ?_
    all_goals rw [hcrusher, crusher_discardAll]
    · exact hmove
    · exact hepisode
  · next hblocked hrelief' hrecovering hcalibrating =>
    have hm : (ev.crusher i).motion = .idle ∨ InFlight (ev.crusher i).motion ∨ (ev.crusher i).motion = .suspended := by
      cases hmotion : (ev.crusher i).motion <;> simp_all [InFlight]
    obtain ⟨hmotion, hmove, hcal, hepisode⟩ := h.idles hm .failed .lockout
    refine hidles (((Tended.refl i ev).finishMove _ _).discardAll _) ?_ ?_ ?_ ?_
    all_goals rw [crusher_discardAll]
    all_goals assumption

theorem lawful_crusherLockout {x : Slot} (h : Fits x (ev.crusher i)) (hkind : (ev.slot i).kind = x.kind)
    (hrelief : (ev.slot i).relief = x.relief) : Lawful i (ev.crusherLockout i) := by
  have hhold := (Tended.refl i ev).holdDrive
  have hworked : Lawful i ((ev.holdDrive i).lockoutWork i) :=
    lawful_lockoutWork (x := x) (by rw [crusher_holdDrive]; exact h) (by rw [hhold.kind, hkind]) (by rw [hhold.relief, hrelief])
  have hlocks : Lawful i ((((ev.holdDrive i).lockoutWork i).stopRestart i).lockLinked i) :=
    lawful_alike hworked (Tended.refl i _).stopRestart.lockLinked (by rw [crusher_lockLinked]; exact alike_stopRestart ..)
  unfold Ev.crusherLockout
  dsimp only
  split
  · exact lawful_alike (lawful_check hlocks _) (Tended.refl i _).mergeLinked (.of_eq (crusher_mergeLinked ..))
  · exact hlocks

/-- The lockout input is released: the law asks no more of it (R54, R74). -/
theorem lawful_crusherUnlock (h : Lawful i ev) : Lawful i (ev.crusherUnlock i) := by
  unfold Ev.crusherUnlock
  dsimp only
  refine lawful_check ?_ _
  split
  · exact lawful_alike h (((Tended.refl i ev).lowerLinked _).raiseLinked _) (.of_eq (by rw [crusher_raiseLinked, crusher_lowerLinked]))
  · exact lawful_alike h ((Tended.refl i ev).lowerLinked _) (.of_eq (crusher_lowerLinked ..))

/-! ### Authority and the line stop at one crusher (chapter 7) -/

theorem crusher_handoverEntries (ev : Ev) (i : SlotId) (p : Port) : (ev.handoverEntries i p).crusher i =
    { ev.crusher i with queue := (ev.crusher i).queue.filter (fun e => !(e.origin == .port p)) } := by
  unfold Ev.handoverEntries
  rw [crusher_foldl _ _ (fun ev e => crusher_announceDiscard ev i i _ e)]
  exact crusher_modCrusher ..

theorem lawful_handover (h : Lawful i ev) (p : Port) : Lawful i (ev.handover i p) := by
  have hentries : Lawful i (ev.handoverEntries i p) := by
    refine lawful_alike h ((Tended.refl i ev).handoverEntries p) ?_
    rw [crusher_handoverEntries]
    exact ⟨rfl, rfl, rfl, rfl, fun hq => by simp [hq]⟩
  have hmove : Lawful i ((ev.handoverEntries i p).handoverMove i p) := by
    unfold Ev.handoverMove
    split
    · exact lawful_addCause hentries _
    · exact hentries
  exact lawful_alike hmove ((Tended.refl i _).changeHandover ..) (.of_eq (crusher_changeHandover ..))

theorem lawful_lineStopCrusher (h : Lawful i ev) : Lawful i (ev.lineStopCrusher i) := by
  unfold Ev.lineStopCrusher
  split
  · exact lawful_failCal h _
  · exact lawful_addCause h _

/-! ### Channels and timers (chapters 3 and 10) -/

theorem lawful_leaveDraining (h : Lawful i ev) (hm : (ev.crusher i).motion = .draining) : Lawful i (ev.leaveDraining i).1 :=
  (h.underway (.inl (.inl hm))).leaveDraining

theorem lawful_levelValue (h : Lawful i ev) : Lawful i (ev.levelValue i) := by
  unfold Ev.levelValue
  dsimp only
  split
  · split
    · next hm => exact lawful_follow (lawful_leaveDraining h hm)
    · split
      · exact lawful_enterApproach h
      · exact h
    · exact h
  · exact h

theorem lawful_sensorBack (h : Lawful i ev) : Lawful i (ev.sensorBack i) := by
  unfold Ev.sensorBack
  dsimp only
  split
  · refine lawful_follow (lawful_testCauses ?_)
    refine ((Tended.refl i ev).onMove _).lawful ?_
    rw [crusher_onMove]
    exact h.onMove (fun _ => rfl)
  · exact h

theorem lawful_moveStep (h : Lawful i ev) (hm : (ev.crusher i).motion = .moving) (p : Nat) : Lawful i (ev.moveStep i p) := by
  refine ((Tended.refl i ev).moveStep p).lawful ?_
  rcases crusher_moveStep ev i p with hc | hc <;> rw [hc]
  · exact h
  · exact Underway.fits ((h.underway (.inl (.inr (.inl hm)))).same rfl rfl rfl) (.inr (.inl rfl))

theorem lawful_positionReading (h : Lawful i ev) (p : Nat) : Lawful i (ev.positionReading i p) := by
  unfold Ev.positionReading
  split
  · next hm => exact lawful_moveStep h hm p
  · exact lawful_sensorBack h
  · exact lawful_sensorBack h
  · dsimp only
    split
    · exact lawful_sensorBack h
    · exact lawful_alike (lawful_sensorBack h) ((Tended.refl i _).recoverStep _) (alike_recoverStep ..)
  · exact lawful_alike h ((Tended.refl i ev).calReading _) (alike_calReading ..)
  · exact h

theorem lawful_positionLost (h : Lawful i ev) : Lawful i (ev.positionLost i).1 := by
  have hheld : Lawful i (((ev.record i .positionInvalid).holdDrive i).modCrusher i (fun c => { c with settle := none })) :=
    lawful_modCrusher (lawful_holdDrive (lawful_record h _)) _ ⟨rfl, rfl, rfl, rfl, id⟩
  unfold Ev.positionLost
  dsimp only
  split
  · exact lawful_addCause hheld _
  · exact lawful_finishMove hheld ..

theorem lawful_positionGone (h : Lawful i ev) : Lawful i (ev.positionGone i) := by
  unfold Ev.positionGone
  split
  · exact lawful_follow (lawful_positionLost h)
  · exact lawful_follow (lawful_positionLost h)
  · exact lawful_record h _
  · exact lawful_record h _
  · exact lawful_record (lawful_modCrusher (lawful_holdDrive h) _ ⟨rfl, rfl, rfl, rfl, id⟩) _
  · exact lawful_calLost h
  · exact h

theorem lawful_positionEvent (h : Lawful i ev) (e : PositionEvent) : Lawful i (ev.positionEvent i e) := by
  have hretested : Lawful i (ev.retestDrive i) := lawful_alike h (Tended.refl i ev).retestDrive (.of_eq (crusher_retestDrive ..))
  unfold Ev.positionEvent
  split
  · exact h
  · exact lawful_positionReading hretested _
  · exact lawful_positionReading hretested _
  · exact lawful_positionGone hretested

theorem lawful_failMove (h : Lawful i ev) (k : Cond) (r : Reason) : Lawful i (Ev.follow ((ev.record i k).finishMove i .failed r) i) :=
  lawful_follow (lawful_finishMove (lawful_record h k) ..)

theorem lawful_travelOut (h : Lawful i ev) : Lawful i (ev.travelOut i) := by
  unfold Ev.travelOut
  split
  · exact lawful_failMove (lawful_holdDrive h) ..
  · exact lawful_failMove (lawful_holdDrive h) ..
  · exact lawful_failMove (lawful_holdDrive h) ..
  · exact lawful_calTravelOut h
  · exact h

theorem lawful_moveSettled (h : Lawful i ev) (hm : (ev.crusher i).motion = .settling) : Lawful i (ev.moveSettled i) := by
  unfold Ev.moveSettled
  dsimp only
  split
  · split
    · exact lawful_follow (lawful_finishDone h)
    · exact lawful_follow (h.underway (.inl (.inr (.inr hm)))).enterMoving
  · exact h

theorem lawful_settleOut (h : Lawful i ev) : Lawful i (ev.settleOut i) := by
  have hstopped : Lawful i (ev.modCrusher i (fun c => { c with settle := none })) := lawful_modCrusher h _ ⟨rfl, rfl, rfl, rfl, id⟩
  unfold Ev.settleOut
  dsimp only
  split
  · next hm => exact lawful_moveSettled hstopped hm
  · next hm => exact lawful_recoverySettled hstopped hm
  · exact lawful_calSettled hstopped
  · exact hstopped

theorem lawful_suspensionOut (h : Lawful i ev) : Lawful i (ev.suspensionOut i) := by
  unfold Ev.suspensionOut
  split
  · exact lawful_failMove h ..
  · exact h

theorem lawful_drainLimitOut (h : Lawful i ev) : Lawful i (ev.drainLimitOut i) := by
  unfold Ev.drainLimitOut
  split
  · exact lawful_failMove h ..
  · exact lawful_failCal (lawful_record h _) _
  · exact h

theorem lawful_fixedDrainOut (h : Lawful i ev) : Lawful i (ev.fixedDrainOut i) := by
  unfold Ev.fixedDrainOut
  split
  · next hm => exact lawful_follow (lawful_leaveDraining h hm)
  · exact lawful_enterApproach h
  · exact h

/-! ### Requests at one crusher (chapters 3 to 5) -/

theorem lawful_flushSlot (h : Lawful i ev) : Lawful i (ev.flushSlot i) := by
  have hempty := lawful_discardAll h .flush
  unfold Ev.flushSlot
  dsimp only
  split
  · exact lawful_follow (lawful_finishMove hempty ..)
  · exact lawful_follow (lawful_finishMove hempty ..)
  · exact lawful_follow (lawful_finishMove hempty ..)
  · exact lawful_follow (lawful_finishMove hempty ..)
  · split
    · exact lawful_finishMove hempty ..
    · exact hempty
  · split
    · exact lawful_finishMove hempty ..
    · exact hempty
  · exact hempty

theorem lawful_makeRoom {e : Entry} {ev' : Ev} (h : Lawful i ev) (hroom : ev.makeRoom i e = some ev') : Lawful i ev' := by
  have ht := (Tended.refl i ev).makeRoom hroom
  unfold Ev.makeRoom at hroom
  dsimp only at hroom
  split at hroom
  · cases hroom; exact h
  · split at hroom
    · split at hroom
      · cases hroom
        refine lawful_alike h ht ?_
        rw [crusher_endEntry, crusher_modCrusher]
        refine ⟨rfl, rfl, rfl, rfl, fun hq => ?_⟩
        exact List.sublist_nil.1 (hq ▸ dropNewestOrdinary_sublist _)
      · cases hroom
    · cases hroom

/-- An entry joins the queue of a crusher that is not BLOCKED (R36). -/
theorem lawful_enters (h : Lawful i ev) (hopen : ∀ b, (ev.crusher i).motion ≠ .blocked b) (e : Entry) :
    Lawful i (ev.modCrusher i (fun c => { c with queue := insertEntry c.queue e })) := by
  unfold Lawful
  rw [crusher_modCrusher, slot_modCrusher]
  obtain ⟨hcoherent, hhome, hdrains, hjaw, hlocked⟩ := h
  refine ⟨?_, hhome, hdrains, hjaw, hlocked⟩
  unfold MotionCoherent at hcoherent ⊢
  cases hm : (ev.crusher i).motion with
  | blocked b => exact absurd hm (hopen b)
  | _ => rw [hm] at hcoherent; simpa only [hm] using hcoherent

/-- A block that is cleared leaves IDLE (R76). -/
theorem lawful_unblock (h : Lawful i ev) (hm : (ev.crusher i).motion = .idle ∨ ∃ b, (ev.crusher i).motion = .blocked b) :
    Lawful i (ev.setMotion i .idle) := by
  obtain ⟨hmove, hcal, hepisode, hstill⟩ := h.rests hm
  refine ((Tended.refl i ev).setMotion _).lawful ?_
  rw [crusher_setMotion]
  exact Rests.idle ⟨hmove, hcal, hepisode, hstill⟩ rfl

/-- A run begins at a crusher at rest whose lockout input is released (R85). -/
theorem lawful_startCal (h : Lawful i ev) (hm : (ev.crusher i).motion = .idle ∨ ∃ b, (ev.crusher i).motion = .blocked b)
    (hfree : (ev.slot i).lockout.state = false) (r : Request) : Lawful i (ev.startCal r i) := by
  obtain ⟨hmove, hcal, hepisode, hstill⟩ := h.rests hm
  unfold Ev.startCal
  dsimp only
  refine ((Tended.refl i ev).modCrusher _).lawful ?_
  rw [crusher_modCrusher]
  refine ⟨by unfold MotionCoherent; exact ⟨hmove, rfl, hepisode⟩, by simp [hepisode], by simp [hmove], fun hk => ⟨hepisode, hstill hk⟩,
    by simp [hfree]⟩

end

end Sys2Proof.Proofs
end


section
/-! PROOF. What every event keeps: the bounds of the queues and of the wear, the law of the crushers' records, and at most one immediate
reply, at the port of the request (R36, R42, R79, R159, R175, R176). -/

namespace Sys2Proof.Proofs

open Sys2Proof Sys2Proof.Machine

set_option Elab.async false

/-- How many immediate replies the event has raised for a port. -/
def immediates (ev : Ev) (q : Port) : Nat := ((ev.replies.filter (fun r => r.port == q)).filter (·.immediate)).length

/-- The law at one slot of an event. -/
abbrev LawAt (j : SlotId) (ev : Ev) : Prop := (ev.slot j).kind.isCrusher = true → Lawful j ev

/-- The event has gone on and kept its bounds, raising at most `k` immediate replies more for port `p` and none for others. -/
structure Kept (p : Port) (k : Nat) (ev ev' : Ev) : Prop where
  phase : ev'.s.phase = ev.s.phase
  ports : ∀ q, (ev'.s.ports.get q).tx.length ≤ (ev.s.ports.get q).tx.length
    ∧ (ev'.s.ports.get q).notices.length ≤ (ev.s.ports.get q).notices.length
  answers : ∀ q, immediates ev' q ≤ immediates ev q + if q = p then k else 0
  queue : ∀ j, QueueOk (ev.crusher j).queue → QueueOk (ev'.crusher j).queue
  wear : ∀ j, WearOk (ev.slot j) → WearOk (ev'.slot j)
  law : ∀ j, LawAt j ev → LawAt j ev'

/-- Two slots that the laws do not tell apart. -/
structure Akin (x y : Slot) : Prop where
  crusher : y.crusher = x.crusher
  kind : y.kind = x.kind
  cp : y.cp = x.cp
  lockout : y.lockout = x.lockout
  relief : y.relief = x.relief

theorem Akin.refl (x : Slot) : Akin x x := ⟨rfl, rfl, rfl, rfl, rfl⟩

theorem Akin.trans {x y z : Slot} (h : Akin x y) (h' : Akin y z) : Akin x z :=
  ⟨h'.crusher.trans h.crusher, h'.kind.trans h.kind, h'.cp.trans h.cp, h'.lockout.trans h.lockout, h'.relief.trans h.relief⟩

theorem immediates_of_finals {ev ev' : Ev} (h : Finals ev ev') (q : Port) : immediates ev' q = immediates ev q := by
  obtain ⟨rs, hrs, hfinal⟩ := h
  have hnone : (rs.filter (fun r => r.port == q)).filter (·.immediate) = [] := by
    rw [List.filter_eq_nil_iff]
    intro r hr
    simp [hfinal r (List.mem_of_mem_filter hr)]
  simp [immediates, hrs, hnone]

theorem immediates_immediateAt (ev : Ev) (k : Nat) (p q : Port) (r : Reply) :
    immediates (ev.immediateAt k p r) q = immediates ev q + if q = p then 1 else 0 := by
  obtain ⟨before, after, htake, hdrop, hall⟩ : ∃ before after, ev.replies.take k = before ∧ ev.replies.drop k = after
      ∧ ev.replies = before ++ after := ⟨_, _, rfl, rfl, (List.take_append_drop ..).symm⟩
  simp only [immediates, Ev.immediateAt, htake, hdrop]
  rw [hall]
  by_cases hq : q = p
  · subst hq; simp; omega
  · have hne : (p == q) = false := by simpa using fun h => hq h.symm
    simp [hq, hne]

theorem answers_of_finals {ev ev' : Ev} (h : Finals ev ev') (q : Port) (n : Nat) : immediates ev' q ≤ immediates ev q + n :=
  (immediates_of_finals h q).le.trans (Nat.le_add_right ..)

namespace Kept

variable {p : Port} {k l : Nat} {i : SlotId} {ev ev' ev'' : Ev}

theorem refl (p : Port) (ev : Ev) : Kept p 0 ev ev :=
  ⟨rfl, fun _ => ⟨Nat.le_refl _, Nat.le_refl _⟩, fun _ => Nat.le_add_right .., fun _ => id, fun _ => id, fun _ => id⟩

theorem trans (h : Kept p k ev ev') (h' : Kept p l ev' ev'') : Kept p (k + l) ev ev'' where
  phase := h'.phase.trans h.phase
  ports q := ⟨(h'.ports q).1.trans (h.ports q).1, (h'.ports q).2.trans (h.ports q).2⟩
  answers q := by
    have h1 := h.answers q
    have h2 := h'.answers q
    split at h1 <;> simp_all <;> omega
  queue j hq := h'.queue j (h.queue j hq)
  wear j hw := h'.wear j (h.wear j hw)
  law j hl := h'.law j (h.law j hl)

/-- Steps that raise no immediate reply, ahead of or behind others. -/
theorem before (h : Kept p 0 ev ev') (h' : Kept p k ev' ev'') : Kept p k ev ev'' := by
  have := h.trans h'
  rwa [Nat.zero_add] at this

theorem behind (h : Kept p k ev ev') (h' : Kept p 0 ev' ev'') : Kept p k ev ev'' := h.trans h'

/-- The slots are akin, and the ports hold no more. -/
theorem of_akin (hphase : ev'.s.phase = ev.s.phase)
    (hports : ∀ q, (ev'.s.ports.get q).tx.length ≤ (ev.s.ports.get q).tx.length
      ∧ (ev'.s.ports.get q).notices.length ≤ (ev.s.ports.get q).notices.length)
    (hanswers : ∀ q, immediates ev' q ≤ immediates ev q + if q = p then k else 0) (hslot : ∀ j, Akin (ev.slot j) (ev'.slot j)) :
    Kept p k ev ev' where
  phase := hphase
  ports := hports
  answers := hanswers
  queue j hq := by rw [Ev.crusher, (hslot j).crusher]; exact hq
  wear j hw := by
    obtain ⟨hcrusher, -, hcp, -, -⟩ := hslot j
    unfold WearOk
    rw [hcrusher, hcp]
    exact hw
  law j hl hk := by
    obtain ⟨hcrusher, hkind, -, hlockout, hrelief⟩ := hslot j
    rw [hkind] at hk
    unfold Lawful Ev.crusher
    rw [hcrusher]
    exact (hl hk).congr hkind hlockout hrelief

/-- Of the part's slots nothing changes, nor of its ports. -/
theorem of_slots (hphase : ev'.s.phase = ev.s.phase) (hports : ev'.s.ports = ev.s.ports) (hslots : ev'.s.slots = ev.s.slots)
    (hr : Finals ev ev') : Kept p 0 ev ev' := by
  refine of_akin hphase (fun q => by rw [hports]; exact ⟨Nat.le_refl _, Nat.le_refl _⟩) (fun q => answers_of_finals hr q _) (fun j => ?_)
  rw [Ev.slot, Ev.slot, hslots]
  exact .refl _

theorem of_same (hs : ev'.s = ev.s) (hr : ev'.replies = ev.replies) : Kept p 0 ev ev' :=
  of_slots (by rw [hs]) (by rw [hs]) (by rw [hs]) (.same hr)

/-- A slot changes in what the laws do not read. -/
theorem modSlot (ev : Ev) (i : SlotId) (f : Slot → Slot) (hf : Akin (ev.slot i) (f (ev.slot i))) : Kept p 0 ev (ev.modSlot i f) := by
  refine of_akin rfl (fun _ => ⟨Nat.le_refl _, Nat.le_refl _⟩) (fun q => answers_of_finals (.same rfl) q _) (fun j => ?_)
  by_cases hj : j = i
  · subst hj; rw [slot_modSlot]; exact hf
  · rw [show (ev.modSlot i f).slot j = ev.slot j from State.modSlot_slot_ne _ _ hj]; exact .refl _

theorem modFeeder (ev : Ev) (i : SlotId) (f : Feeder → Feeder) : Kept p 0 ev (ev.modFeeder i f) := modSlot _ _ _ ⟨rfl, rfl, rfl, rfl, rfl⟩

theorem of_spared (h : Spared ev ev') : Kept p 0 ev ev' := by
  refine of_akin (by rw [h.rest]) (fun q => by rw [h.rest]; exact ⟨Nat.le_refl _, Nat.le_refl _⟩)
    (fun q => answers_of_finals h.finals q _) (fun j => ?_)
  rw [h.slot j]
  exact ⟨rfl, rfl, rfl, rfl, rfl⟩

/-- The work at a slot that may be no crusher, where the law says nothing. -/
theorem of_tended_crusher (h : Tended i ev ev') (hl : (ev.slot i).kind.isCrusher = true → Lawful i ev → Lawful i ev') : Kept p 0 ev ev' where
  phase := h.phase
  ports q := by rw [h.ports]; exact ⟨Nat.le_refl _, Nat.le_refl _⟩
  answers q := answers_of_finals h.finals q _
  queue := h.queue
  wear := h.wear
  law j hlaw hk := by
    rw [h.kind] at hk
    by_cases hj : j = i
    · subst hj; exact hl hk (hlaw hk)
    · unfold Lawful
      rw [(h.aside j hj).1]
      exact (hlaw hk).congr (h.kind j) (h.lockout j) (h.relief j)

/-- The work at one crusher, which keeps to its law. -/
theorem of_tended (h : Tended i ev ev') (hl : Lawful i ev → Lawful i ev') : Kept p 0 ev ev' := of_tended_crusher h (fun _ => hl)

theorem foldl {α : Type} {f : Ev → α → Ev} (hf : ∀ ev x, Kept p 0 ev (f ev x)) (xs : List α) (ev : Ev) : Kept p 0 ev (xs.foldl f ev) := by
  induction xs generalizing ev with
  | nil => exact .refl p ev
  | cons x xs ih => exact (hf ev x).before (ih _)

theorem each {f : Ev → SlotId → Ev} (hf : ∀ ev i, Kept p 0 ev (f ev i)) (l : List SlotId) (ev : Ev) : Kept p 0 ev (ev.each l f) :=
  foldl hf l ev

theorem ite {c : Prop} [Decidable c] (h : Kept p k ev ev') (h' : Kept p k ev ev'') : Kept p k ev (if c then ev' else ev'') := by
  split
  · exact h
  · exact h'

theorem immediateAt (ev : Ev) (n : Nat) (p : Port) (r : Reply) : Kept p 1 ev (ev.immediateAt n p r) :=
  of_akin rfl (fun _ => ⟨Nat.le_refl _, Nat.le_refl _⟩) (fun q => (immediates_immediateAt ev n p q r).le) (fun _ => .refl _)

end Kept

/-! ### The end of an event (R159, R176) -/

/-- The laws that every step keeps. -/
structure KeepsLaws (s t : State) : Prop where
  port : PortLaw s → PortLaw t
  queue : QueueLaw s → QueueLaw t
  motion : MotionLaw s → MotionLaw t
  wear : WearLaw s → WearLaw t

theorem KeepsLaws.trans {s t u : State} (h : KeepsLaws s t) (h' : KeepsLaws t u) : KeepsLaws s u :=
  ⟨fun hp => h'.port (h.port hp), fun hq => h'.queue (h.queue hq), fun hm => h'.motion (h.motion hm), fun hw => h'.wear (h.wear hw)⟩

theorem join_tx_notices (q : PortState) (p : Port) (n : Notice) (h : q.notices.length ≤ 16) : (q.join p n).notices.length ≤ 16 := by
  rcases q.join_notices p n with hn | ⟨hn, hlt⟩ <;> rw [hn]
  · exact h
  · simp [Config.noticePlaces] at hlt ⊢; omega

theorem joinAll_length (ns : List Notice) (q : PortState) (p : Port) (h : q.notices.length ≤ 16) :
    (ns.foldl (fun q n => q.join p n) q).notices.length ≤ 16 := by
  induction ns generalizing q with
  | nil => exact h
  | cons n ns ih => exact ih _ (join_tx_notices q p n h)

theorem deliver_bounds {q : PortState} {p : Port} {on : Bool} {ns : List Notice} {rs : List Raised} (htx : q.tx.length ≤ 64)
    (hnotices : q.notices.length ≤ 16) (hfree : q.tx.length + ((rs.filter (fun r => r.port == p)).filter (·.immediate)).length ≤ 64) :
    (q.deliver p on ns rs).tx.length ≤ 64 ∧ (q.deliver p on ns rs).notices.length ≤ 16 := by
  unfold PortState.deliver
  split
  · dsimp only
    refine ⟨?_, joinAll_length ns _ p hnotices⟩
    have hjoin := joinReplies_length (rs.filter (fun r => r.port == p))
      (64 - q.tx.length - ((rs.filter (fun r => r.port == p)).filter (·.immediate)).length)
    simp only [joinAll_tx, Config.txPlaces, List.length_append]
    omega
  · exact ⟨htx, hnotices⟩

theorem Kept.queueLaw {p : Port} {k : Nat} {ev ev' : Ev} (h : Kept p k ev ev') (hl : QueueLaw ev.s) : QueueLaw ev'.s :=
  fun j => h.queue j (hl j)

theorem Kept.wearLaw {p : Port} {k : Nat} {ev ev' : Ev} (h : Kept p k ev ev') (hl : WearLaw ev.s) : WearLaw ev'.s :=
  fun j => h.wear j (hl j)

theorem Kept.motionLaw {p : Port} {k : Nat} {ev ev' : Ev} (h : Kept p k ev ev') (hp : ev.s.phase = .running) (hl : MotionLaw ev.s) :
    MotionLaw ev'.s := by
  rw [motionLaw_iff hp] at hl
  rw [motionLaw_iff (h.phase.trans hp)]
  exact fun j => h.law j (hl j)

/-- Where the one immediate reply of an event finds a place, the queues of the ports keep their bounds (R159, R176). -/
theorem commit_portLaw {p : Port} {k : Nat} {s : State} {ev : Ev} (hp : ev.s.phase = .running)
    (hports : ∀ q, (ev.s.ports.get q).tx.length ≤ (s.ports.get q).tx.length ∧ (ev.s.ports.get q).notices.length ≤ (s.ports.get q).notices.length)
    (hanswers : ∀ q, immediates ev q ≤ if q = p then k else 0) (hfree : (s.ports.get p).tx.length + k ≤ 64 ∨ k = 0) (hl : PortLaw s) :
    PortLaw ev.commit := by
  intro q
  obtain ⟨htx, hnotices⟩ := hl q
  obtain ⟨htx', hnotices'⟩ := hports q
  have hraised := hanswers q
  simp only [Ev.commit, hp, if_true, PerPort.get_of]
  refine deliver_bounds (htx'.trans htx) (hnotices'.trans hnotices) ?_
  split at hraised
  · next hq =>
    subst hq
    rcases hfree with hfree | rfl <;> simp only [immediates] at hraised <;> omega
  · simp only [immediates] at hraised; omega

/-- An event of a running part keeps the laws, where the one immediate reply finds a place (R159, R176). -/
theorem Kept.commit {p : Port} {k : Nat} {s : State} {ev : Ev} (h : Kept p k (Ev.of s) ev) (hp : s.phase = .running)
    (hfree : (s.ports.get p).tx.length + k ≤ 64 ∨ k = 0) : KeepsLaws s ev.commit where
  port := commit_portLaw (h.phase.trans hp) h.ports (fun q => (h.answers q).trans_eq (Nat.zero_add _)) hfree
  queue hl j := by rw [Ev.commit_slots]; exact h.queueLaw hl j
  motion hl := by
    have hl' := h.motionLaw hp hl
    unfold MotionLaw
    rw [Ev.commit_slots, Ev.commit_phase]
    exact hl'
  wear hl j := by rw [Ev.commit_slots]; exact h.wearLaw hl j

/-- Slots and phase agree up to what the laws do not read, and the ports hold no more. -/
theorem KeepsLaws.of_akin {s t : State} (hphase : t.phase = s.phase)
    (hports : ∀ q, (t.ports.get q).tx.length ≤ (s.ports.get q).tx.length ∧ (t.ports.get q).notices.length ≤ (s.ports.get q).notices.length)
    (hslot : ∀ j, Akin (s.slots.get j) (t.slots.get j)) : KeepsLaws s t where
  port hl q := ⟨(hports q).1.trans (hl q).1, (hports q).2.trans (hl q).2⟩
  queue hl j := by rw [(hslot j).crusher]; exact hl j
  motion hl j := by
    obtain ⟨hcrusher, hkind, -, hlockout, hrelief⟩ := hslot j
    dsimp only
    rw [hcrusher, hkind, hlockout, hrelief, hphase]
    exact hl j
  wear hl j := by
    obtain ⟨hcrusher, -, hcp, -, -⟩ := hslot j
    dsimp only
    rw [hcrusher, hcp]
    exact hl j

theorem KeepsLaws.of_slots {s t : State} (hphase : t.phase = s.phase) (hports : t.ports = s.ports) (hslots : t.slots = s.slots) :
    KeepsLaws s t :=
  .of_akin hphase (fun q => by rw [hports]; exact ⟨Nat.le_refl _, Nat.le_refl _⟩) (fun j => by rw [hslots]; exact .refl _)

theorem KeepsLaws.refl (s : State) : KeepsLaws s s := .of_slots rfl rfl rfl

end Sys2Proof.Proofs
end


section
/-! PROOF. The events of the feeders, the bin, the authority unit, the line changes and the store keep the bounds (chapters 6, 7, 8
and 12). -/

namespace Sys2Proof.Proofs

open Sys2Proof Sys2Proof.Machine

set_option Elab.async false

section
variable {p : Port} (ev : Ev) (i : SlotId)

/-! ### Steps that read no law -/

theorem kept_notify (n : Option SlotId) (b : NoticeBody) : Kept p 0 ev (ev.notify n b) := .of_same rfl rfl

theorem kept_record (k : Cond) : Kept p 0 ev (ev.record i k) := .of_spared (spared_record ..)

theorem kept_markDirty (r : RecId) : Kept p 0 ev (ev.markDirty r) := .of_spared (spared_markDirty ..)

theorem kept_finalReply (q : Port) (ack : Bool) (r : Reply) : Kept p 0 ev (ev.finalReply q ack r) := .of_spared (spared_finalReply ..)

theorem kept_onChange (f : Change → Change) : Kept p 0 ev (ev.onChange f) := .of_spared (spared_onChange ..)

/-- A change of the part's state beside its slots, ports and phase. -/
theorem kept_onState (f : State → State) (hphase : (f ev.s).phase = ev.s.phase) (hports : (f ev.s).ports = ev.s.ports)
    (hslots : (f ev.s).slots = ev.s.slots) : Kept p 0 ev (ev.onState f) := .of_slots hphase hports hslots (.same rfl)

/-! ### Feeders and the bin (chapter 6) -/

theorem kept_mergedNotice (c : FeederCause) : Kept p 0 ev (ev.mergedNotice i c) := .of_same (by simp) (by simp)

theorem kept_raise (r : Inhibit) : Kept p 0 ev (ev.raise i r) := by
  unfold Ev.raise
  split
  · exact .refl p ev
  · exact (Kept.modFeeder ev i (·.raise r)).before (.of_same (by simp) (by simp))

theorem kept_lower (r : Inhibit) : Kept p 0 ev (ev.lower i r) := by
  unfold Ev.lower
  split
  · exact (Kept.modFeeder ev i (·.lower r)).before (.of_same (by simp) (by simp))
  · exact .refl p ev

theorem kept_enterRun (r : RunState) (c : FeederCause) : Kept p 0 ev (ev.enterRun i r c) := by
  unfold Ev.enterRun
  dsimp only
  split <;> split
  · exact .modFeeder ..
  · exact .modFeeder ..
  · exact (Kept.modFeeder ev i _).before (kept_mergedNotice ..)
  · exact (Kept.modFeeder ev i _).before (kept_mergedNotice ..)

theorem kept_keepRate (r : Nat) : Kept p 0 ev (ev.keepRate i r) := .modFeeder ..

theorem kept_regulateBin (d : Int) : Kept p 0 ev (ev.regulateBin i d) := by
  unfold Ev.regulateBin
  dsimp only
  split
  · exact (kept_keepRate ev i 0).before (.modFeeder ..)
  · exact kept_keepRate ..
  · exact kept_keepRate ..
  · split
    · exact (kept_record ev i _).before (kept_keepRate ..)
    · exact (kept_record ev i _).before (kept_enterRun ..)

theorem kept_regulatePower (d : Int) : Kept p 0 ev (ev.regulatePower i d) := by
  have hread : Kept p 0 ev (if ev.s.servedPower i = some none then ev.record i .powerInvalid else ev) := .ite (kept_record ..) (.refl p ev)
  unfold Ev.regulatePower
  dsimp only
  split
  · exact hread.before (kept_regulateBin ..)
  · exact hread.before (kept_enterRun ..)

theorem kept_regulate : Kept p 0 ev (ev.regulate i) := by
  unfold Ev.regulate
  dsimp only
  split
  · exact .modFeeder ..
  · have hread : Kept p 0 ev ((if demandInvalid (ev.slot i).feeder (ev.s.servedLevel i) = true then ev.record i .levelInvalid else ev).modFeeder i
        (fun f => { f with seed := false })) := (Kept.ite (kept_record ..) (.refl p ev)).before (.modFeeder ..)
    split
    · exact hread.before (kept_regulatePower ..)
    · exact hread.before (kept_enterRun ..)

theorem kept_regulationPeriod : Kept p 0 ev (ev.regulationPeriod i) := by
  unfold Ev.regulationPeriod
  exact .ite ((kept_regulate ev i).before (.modFeeder ..)) (kept_regulate ev i)

theorem kept_confirmOut : Kept p 0 ev (ev.confirmOut i) := by
  have hstopped : Kept p 0 ev (ev.modFeeder i (fun f => { f with confirmTimer := none })) := .modFeeder ..
  unfold Ev.confirmOut
  exact .ite hstopped (hstopped.before ((kept_record _ i _).before (kept_enterRun ..)))

theorem kept_feedbackLost : Kept p 0 ev (ev.feedbackLost i) := by
  unfold Ev.feedbackLost
  exact .ite ((kept_record ev i _).before (kept_enterRun ..)) (.refl p ev)

theorem kept_setBinState (b : BinState) (l : Option Nat) : Kept p 0 ev (ev.setBinState b l) := by
  unfold Ev.setBinState
  exact .ite (.refl p ev) ((kept_onState ev (fun s => { s with bin := { s.bin with state := b } }) rfl rfl rfl).before (kept_notify ..))

theorem kept_binLevel (l : Nat) : Kept p 0 ev (ev.binLevel l) :=
  (kept_onState ev (fun s => { s with bin := { s.bin with lastValid := l } }) rfl rfl rfl).before (kept_setBinState ..)

theorem kept_recordBinInvalid : Kept p 0 ev ev.recordBinInvalid :=
  .each (fun ev i => .ite (kept_record ev i _) (.refl p ev)) ..

theorem kept_binLost : Kept p 0 ev ev.binLost := (kept_setBinState ..).before (kept_recordBinInvalid _)

theorem kept_levelLost : Kept p 0 ev (ev.levelLost i) :=
  .each (fun ev _ => .ite (kept_record ev _ _) (.refl p ev)) ..

theorem kept_powerLost : Kept p 0 ev (ev.powerLost i) := by
  unfold Ev.powerLost
  exact .ite (.each (fun ev _ => .ite (kept_record ev _ _) (.refl p ev)) ..) (.refl p ev)

/-! ### The channels and timers of a crusher -/

theorem kept_check (trim : Bool) : Kept p 0 ev (ev.check i trim) := .of_tended ((Tended.refl i ev).check _) (lawful_check · _)

theorem kept_analogEvent (k : AnalogInput) (e : AnalogEvent) : Kept p 0 ev (ev.analogEvent k e) := by
  unfold Ev.analogEvent
  split
  · exact .of_tended (Tended.refl _ ev).levelValue lawful_levelValue
  · exact .of_tended (Tended.refl _ ev).levelValue lawful_levelValue
  · exact kept_levelLost ..
  · exact kept_powerLost ..
  · exact kept_binLevel ..
  · exact kept_binLevel ..
  · exact kept_binLost _
  · exact .refl p ev

/-! ### Authority (chapter 7) -/

theorem kept_handover (q : Port) : Kept p 0 ev (ev.handover i q) := .of_tended ((Tended.refl i ev).handover q) (lawful_handover · q)

theorem kept_setHolder (h : Option Port) (c : AuthCause) : Kept p 0 ev (ev.setHolder i h c) := by
  have hset : Kept p 0 ev (ev.modSlot i (fun x => { x with holder := h })) := .modSlot _ _ _ ⟨rfl, rfl, rfl, rfl, rfl⟩
  unfold Ev.setHolder
  dsimp only
  split
  · exact .refl p ev
  · split
    · exact hset.before ((kept_handover ..).before (kept_notify ..))
    · exact hset.before (kept_notify ..)

theorem kept_reexamine : Kept p 0 ev (ev.reexamine i) := kept_setHolder ..

theorem kept_selectorToLocal (q : Port) : Kept p 0 ev (ev.selectorToLocal q) :=
  .each (fun ev _ => .ite (kept_setHolder ev _ _ _) (.refl p ev)) ..

theorem kept_selectorToRemote (q : Port) : Kept p 0 ev (ev.selectorToRemote q) :=
  .each (fun ev _ => .ite (kept_setHolder ev _ _ _) (.refl p ev)) ..

theorem kept_lineStopAsserted : Kept p 0 ev ev.lineStopAsserted := by
  refine (kept_notify ..).before (.each (fun ev i => ?_) ..)
  split
  · exact .of_tended (Tended.refl i ev).lineStopCrusher lawful_lineStopCrusher
  · exact .of_tended (Tended.refl i ev).lineStopCrusher lawful_lineStopCrusher
  · exact .ite (kept_enterRun ..) (.refl p ev)
  · exact .refl p ev

theorem kept_checkLine : Kept p 0 ev ev.checkLine := .each (fun ev _ => .ite (kept_check ev _ _) (.refl p ev)) ..

theorem kept_lineStopReleased : Kept p 0 ev ev.lineStopReleased := (kept_notify ..).before (kept_checkLine _)

/-! ### Line changes (chapter 8) -/

theorem kept_waveOne : Kept p 0 ev ev.waveOne := by
  unfold Ev.waveOne
  split
  · exact .refl p ev
  · exact .foldl (fun ev x => .of_spared (spared_applyFeedItem ev x)) ..

/-- What `moveGate` leaves of a slot: its crusher is not BLOCKED (R120). -/
theorem moveGate_notBlocked {s : State} {i : SlotId} (h : s.moveGate i = none) (b : BlockCause) :
    (s.slots.get i).crusher.motion ≠ .blocked b := by
  intro hb
  unfold State.moveGate at h
  dsimp only at h
  rw [hb] at h
  dsimp only at h
  split at h
  · cases h
  · split at h
    · cases h
    · split at h <;> cases h

/-- An entry that has found a place joins its queue in order (R36). -/
theorem QueueOk.insert {q : List Entry} (h : QueueOk q) (hroom : q.length < 4) (e : Entry) : QueueOk (insertEntry q e) := by
  refine ⟨by rw [insertEntry_length]; omega, ?_⟩
  obtain ⟨-, hsorted⟩ := h
  unfold insertEntry
  split
  · next hp =>
    have hsplit := List.takeWhile_append_dropWhile (p := (fun x : Entry => x.priority)) (l := q)
    rw [← hsplit, List.pairwise_append] at hsorted
    obtain ⟨hfirst, hrest, hacross⟩ := hsorted
    refine List.pairwise_append.2 ⟨hfirst, List.pairwise_cons.2 ⟨fun _ _ _ => hp, hrest⟩, fun a ha b hb hpb => ?_⟩
    exact List.mem_takeWhile_imp ha
  · next hp =>
    exact List.pairwise_append.2 ⟨hsorted, List.pairwise_singleton .., fun a _ b hb hpb => by
      rw [List.mem_singleton.1 hb] at hpb; exact absurd hpb hp⟩

/-- A queue that has room once an entry has made room for itself (R38). -/
theorem makeRoom_room {ev ev' : Ev} {i : SlotId} {e : Entry} (h : ev.makeRoom i e = some ev') (hq : QueueOk (ev.crusher i).queue) :
    (ev'.crusher i).queue.length < 4 := by
  unfold Ev.makeRoom at h
  dsimp only at h
  split at h
  · next hroom => cases h; simpa [Config.queuePlaces] using hroom
  · split at h
    · split at h
      · next old hold =>
        cases h
        rw [crusher_endEntry, crusher_modCrusher]
        have hfound : (ev.crusher i).queue.reverse.any (fun e => !e.priority) = true := by
          rw [List.any_eq_true]
          exact ⟨old, List.mem_of_find?_eq_some hold, by simpa using List.find?_some hold⟩
        have hlen := List.length_eraseP (l := (ev.crusher i).queue.reverse) (p := fun e => !e.priority)
        rw [if_pos hfound, List.length_reverse] at hlen
        show (dropNewestOrdinary (ev.crusher i).queue).length < 4
        rw [dropNewestOrdinary, List.length_reverse, hlen]
        have := hq.1
        have hne : (ev.crusher i).queue.length ≠ 0 := fun h0 => by simp [List.length_eq_zero_iff.1 h0] at hfound
        omega
      · cases h
    · cases h

section
variable {p : Port} {ev : Ev} {i : SlotId}

/-- An entry that has found a place joins the queue of a crusher that is not BLOCKED (R36). -/
theorem Kept.joinQueue {ev' : Ev} (h : Kept p 0 ev ev') (hroom : QueueOk (ev.crusher i).queue → (ev'.crusher i).queue.length < 4)
    (hopen : ∀ b, (ev'.crusher i).motion ≠ .blocked b) (e : Entry) : Kept p 0 ev (ev'.joinQueue i e) := by
  have hother : ∀ j, j ≠ i → (ev'.modCrusher i (fun c => { c with queue := insertEntry c.queue e })).slot j = ev'.slot j :=
    fun j hj => State.modSlot_slot_ne _ _ hj
  have hjoined : Kept p 0 ev (ev'.modCrusher i (fun c => { c with queue := insertEntry c.queue e })) := by
    refine ⟨h.phase, h.ports, h.answers, fun j hq => ?_, fun j hw => ?_, fun j hl hk => ?_⟩
    · by_cases hj : j = i
      · subst hj; rw [crusher_modCrusher]; exact (h.queue j hq).insert (hroom hq) e
      · rw [Ev.crusher, hother j hj]; exact h.queue j hq
    · by_cases hj : j = i
      · subst hj; rw [slot_modCrusher]; exact h.wear j hw
      · rw [hother j hj]; exact h.wear j hw
    · by_cases hj : j = i
      · subst hj
        rw [slot_modCrusher] at hk
        exact lawful_enters (h.law j hl hk) hopen e
      · unfold Lawful Ev.crusher
        rw [hother j hj] at hk ⊢
        exact h.law j hl hk
  unfold Ev.joinQueue
  exact .ite (hjoined.before (kept_record ..)) hjoined

/-- What room for an entry makes of the crusher: an entry less in its queue, or nothing (R38). -/
theorem crusher_makeRoom {ev' : Ev} {e : Entry} (h : ev.makeRoom i e = some ev') :
    ∃ q, ev'.crusher i = { ev.crusher i with queue := q } := by
  unfold Ev.makeRoom at h
  dsimp only at h
  split at h
  · cases h; exact ⟨_, rfl⟩
  · split at h
    · split at h
      · cases h; exact ⟨_, by rw [crusher_endEntry, crusher_modCrusher]⟩
      · cases h
    · cases h

theorem kept_makeRoom {ev' : Ev} {e : Entry} (h : ev.makeRoom i e = some ev') : Kept p 0 ev ev' :=
  .of_tended ((Tended.refl i ev).makeRoom h) (lawful_makeRoom · h)

theorem kept_enqueueItem (ev : Ev) (c : Change) (x : Item) : Kept p 0 ev (ev.enqueueItem c x) := by
  unfold Ev.enqueueItem
  split
  · exact .refl p ev
  · split
    · exact .of_spared (spared_setItem ..)
    · exact .of_spared (spared_setItem ..)
    · next hgate _ =>
      dsimp only
      split
      · exact .of_spared (spared_setItem ..)
      · next ev' hroom =>
        obtain ⟨q, hcrusher⟩ := crusher_makeRoom hroom
        have hset : ∀ v, Spared ev' ((ev'.setItem x.slot .active .noReason).setApplied x.slot v) :=
          fun v => (spared_setItem ..).trans (spared_onChange ..)
        refine Kept.before (Kept.joinQueue ((kept_makeRoom hroom).before (.of_spared (hset _))) (fun hq => ?_) (fun b => ?_) _) (kept_check ..)
        · rw [(hset _).crusher]; exact makeRoom_room hroom hq
        · rw [(hset _).crusher, hcrusher]; exact moveGate_notBlocked hgate b

theorem kept_waveTwo (ev : Ev) : Kept p 0 ev ev.waveTwo := by
  unfold Ev.waveTwo
  split
  · exact .refl p ev
  · exact (kept_onChange ..).before ((Kept.foldl (fun ev x => kept_enqueueItem ev _ x) _ _).before (.of_spared (spared_advanceChange _)))

theorem kept_abortQueues (ev : Ev) (id : Nat) : Kept p 0 ev (ev.abortQueues id) := by
  refine (Kept.each (fun ev i => ?_) _ _).before (.each (fun ev i => .ite (kept_check ..) (.refl p ev)) ..)
  refine .of_tended ((Tended.refl i ev).discardWhere _ _) (fun h => lawful_alike h ((Tended.refl i ev).discardWhere _ _) ?_)
  rw [Ev.abortEntries, crusher_discardWhere]
  exact ⟨rfl, rfl, rfl, rfl, fun hq => by simp [hq]⟩

theorem kept_abortMoves (ev : Ev) (id : Nat) : Kept p 0 ev (ev.abortMoves id) :=
  .each (fun ev i => .ite (.of_tended (Tended.follow ((Tended.refl i ev).finishMove _ _)) (fun h => lawful_follow (lawful_finishMove h ..)))
    (.refl p ev)) ..

theorem kept_endChange (ev : Ev) (r : Reason) : Kept p 0 ev (ev.endChange r) := by
  unfold Ev.endChange
  split
  · exact .refl p ev
  · exact (kept_onChange ..).before ((kept_abortQueues ..).before ((kept_abortMoves ..).before (.of_spared (spared_concludeChange _))))

/-! ### The store (chapter 12) -/

theorem kept_answerPending (ev : Ev) (r : RecId) (failed : Bool) : Kept p 0 ev (ev.answerPending r failed) :=
  (kept_onState _ _ rfl rfl rfl).before (.foldl (fun ev _ => kept_finalReply ev ..) ..)

theorem kept_recordLine (ev : Ev) : Kept p 0 ev ev.recordLine := by
  unfold Ev.recordLine
  exact .ite (.refl p ev) ((kept_onState _ _ rfl rfl rfl).before (kept_notify ..))

theorem kept_recordStoreFault (ev : Ev) (r : RecId) : Kept p 0 ev (ev.recordStoreFault r) := by
  unfold Ev.recordStoreFault
  split
  · exact kept_record ..
  · exact kept_record ..
  · exact kept_record ..
  · exact kept_recordLine _
  · exact kept_recordLine _

theorem kept_writeDone (ev : Ev) (w : StoreWrite) (matched : Bool) : Kept p 0 ev (ev.writeDone w matched) := by
  unfold Ev.writeDone
  dsimp only
  split
  · exact (kept_onState _ _ rfl rfl rfl).before ((kept_onState _ _ rfl rfl rfl).before (kept_answerPending ..))
  · exact (kept_onState _ _ rfl rfl rfl).before ((kept_onState _ _ rfl rfl rfl).before ((kept_recordStoreFault ..).before (kept_answerPending ..)))

end
end

end Sys2Proof.Proofs
end


section
/-! PROOF. Every request keeps the bounds and raises at most its own immediate reply (chapters 1 to 9, R175, R176). -/

namespace Sys2Proof.Proofs

open Sys2Proof Sys2Proof.Machine

set_option Elab.async false

section
variable {ev : Ev} {r : Request} {i : SlotId}

/-! ### Replies (R173, R175) -/

theorem kept_answerAt (ev : Ev) (k : Nat) (c : ReqCode) (r : Request) (d : Disposition) (why : Reason) (body : ReplyBody) :
    Kept r.port 1 ev (ev.answerAt k c r d why body) := .immediateAt ..

theorem kept_answer (ev : Ev) (c : ReqCode) (r : Request) (d : Disposition) (why : Reason) (body : ReplyBody) :
    Kept r.port 1 ev (ev.answer c r d why body) := kept_answerAt ..

theorem kept_done (ev : Ev) (c : ReqCode) (r : Request) (body : ReplyBody) : Kept r.port 1 ev (ev.done c r body) := kept_answer ..

theorem kept_refuse (ev : Ev) (c : ReqCode) (r : Request) (why : Reason) : Kept r.port 1 ev (ev.refuse c r why) := kept_answer ..

theorem kept_unless {c : ReqCode} {refusal : Option Reason} {effect : Ev → Ev} (h : refusal = none → Kept r.port 1 ev (effect ev)) :
    Kept r.port 1 ev (ev.unless c r refusal effect) := by
  unfold Ev.unless
  split
  · exact kept_refuse ..
  · exact h rfl

theorem slotOf_some {s : State} {b : Byte} {p : Slot → Bool} (h : s.slotOf b p = some i) : p (s.slots.get i) = true := by
  unfold State.slotOf at h
  split at h
  · split at h
    · next hp => cases h; exact hp
    · cases h
  · cases h

theorem kept_onCrusher {c : ReqCode} {effect : Ev → SlotId → Ev}
    (h : ∀ i, (ev.slot i).kind.isCrusher = true → Kept r.port 1 ev (effect ev i)) : Kept r.port 1 ev (ev.onCrusher c r effect) := by
  unfold Ev.onCrusher
  split
  · exact kept_refuse ..
  · next i hi => exact kept_unless (fun _ => h i (slotOf_some hi))

theorem kept_onFeeder {c : ReqCode} {effect : Ev → SlotId → Ev} (h : ∀ i, Kept r.port 1 ev (effect ev i)) :
    Kept r.port 1 ev (ev.onFeeder c r effect) := by
  unfold Ev.onFeeder
  split
  · exact kept_refuse ..
  · exact kept_unless (fun _ => h _)

theorem kept_follow {p : Port} {k : Nat} {t : Ev × Option Bool} (h : Kept p k ev t.1) (i : SlotId) : Kept p k ev (Ev.follow t i) := by
  unfold Ev.follow
  split
  · exact h
  · exact h.behind (kept_check ..)

/-- A change of one slot that the laws do not tell apart but for marks of its crusher. -/
theorem Kept.modSlotAlike {p : Port} (ev : Ev) (i : SlotId) (f : Slot → Slot) (hkind : (f (ev.slot i)).kind = (ev.slot i).kind)
    (hcp : (f (ev.slot i)).cp = (ev.slot i).cp) (hlockout : (f (ev.slot i)).lockout = (ev.slot i).lockout)
    (hrelief : (f (ev.slot i)).relief = (ev.slot i).relief) (ha : Alike (ev.crusher i) (f (ev.slot i)).crusher)
    (hq : QueueOk (ev.crusher i).queue → QueueOk (f (ev.slot i)).crusher.queue)
    (hw : (f (ev.slot i)).crusher.w = (ev.crusher i).w ∧ (f (ev.slot i)).crusher.wAtMove = (ev.crusher i).wAtMove) :
    Kept p 0 ev (ev.modSlot i f) := by
  have hother : ∀ j, j ≠ i → (ev.modSlot i f).slot j = ev.slot j := fun j hj => State.modSlot_slot_ne _ _ hj
  refine ⟨rfl, fun _ => ⟨Nat.le_refl _, Nat.le_refl _⟩, fun q => answers_of_finals (.same rfl) q _, fun j hok => ?_, fun j hok => ?_,
    fun j hl hk => ?_⟩
  · by_cases hj : j = i
    · subst hj; rw [Ev.crusher, slot_modSlot]; exact hq hok
    · rw [Ev.crusher, hother j hj]; exact hok
  · by_cases hj : j = i
    · subst hj; unfold WearOk; rw [slot_modSlot, hcp, hw.1, hw.2]; exact hok
    · rw [hother j hj]; exact hok
  · by_cases hj : j = i
    · subst hj
      unfold Lawful Ev.crusher
      rw [slot_modSlot] at hk ⊢
      rw [hkind] at hk
      exact ((hl hk).alike ha).congr hkind hlockout hrelief
    · unfold Lawful Ev.crusher
      rw [hother j hj] at hk ⊢
      exact hl hk

/-- A change of a port that makes its queues no longer. -/
theorem kept_modPort {p : Port} (ev : Ev) (q : Port) (f : PortState → PortState)
    (hf : (f (ev.s.ports.get q)).tx.length ≤ (ev.s.ports.get q).tx.length
      ∧ (f (ev.s.ports.get q)).notices.length ≤ (ev.s.ports.get q).notices.length) :
    Kept p 0 ev (ev.onState (fun s => s.modPort q f)) := by
  refine .of_akin rfl (fun q' => ?_) (fun q' => answers_of_finals (.same rfl) q' _) (fun _ => .refl _)
  by_cases hq : q' = q
  · subst hq; simpa using hf
  · simp [hq]

/-! ### Requests that read, of the link, the authority unit and the conditions (chapters 7, 9 and 11) -/

theorem kept_onReadSlot : Kept r.port 1 ev (ev.onReadSlot r) := by
  unfold Ev.onReadSlot
  split
  · exact kept_refuse ..
  · exact .ite (kept_done ..) (.ite (kept_done ..) (kept_refuse ..))

theorem kept_onReadQueue : Kept r.port 1 ev (ev.onReadQueue r) := by
  unfold Ev.onReadQueue
  split
  · exact kept_refuse ..
  · exact kept_done ..

theorem kept_onReadReliefs : Kept r.port 1 ev (ev.onReadReliefs r) := by
  unfold Ev.onReadReliefs
  split
  · exact kept_refuse ..
  · exact kept_done ..

theorem kept_onReadRecipe : Kept r.port 1 ev (ev.onReadRecipe r) := by
  dsimp only [Ev.onReadRecipe]
  exact kept_unless (fun _ => by
    split
    · exact kept_refuse ..
    · exact kept_done ..)

theorem kept_onReadNote : Kept r.port 1 ev (ev.onReadNote r) := by
  dsimp only [Ev.onReadNote]
  exact kept_unless (fun _ => by
    split
    · exact kept_refuse ..
    · exact (kept_modPort _ _ _ ⟨Nat.le_refl _, Nat.le_refl _⟩).before (kept_done ..))

theorem kept_answerSlots (ev : Ev) (c : ReqCode) (r : Request) (granted : List SlotId) (refused : List (SlotId × Reason)) :
    Kept r.port 1 ev (ev.answerSlots c r granted refused) := by
  unfold Ev.answerSlots
  dsimp only
  split
  · exact kept_answer ..
  · exact .ite (kept_answer ..) (kept_answer ..)

theorem kept_onTake : Kept r.port 1 ev (ev.onTake r) := by
  dsimp only [Ev.onTake]
  exact kept_unless (fun _ =>
    (Kept.each (fun ev _ => kept_setHolder ev _ _ _) _ _).before (kept_answerSlots ..))

theorem kept_onRelease : Kept r.port 1 ev (ev.onRelease r) := by
  dsimp only [Ev.onRelease]
  exact kept_unless (fun _ =>
    (Kept.each (fun ev _ => kept_setHolder ev _ _ _) _ _).before (kept_answerSlots ..))

theorem kept_onHand : Kept r.port 1 ev (ev.onHand r) := by
  dsimp only [Ev.onHand]
  exact kept_unless (fun _ => by
    split
    · exact kept_refuse ..
    · exact (Kept.each (fun ev _ => kept_setHolder ev _ _ _) _ _).before (kept_answerSlots ..))

theorem kept_onPostNote : Kept r.port 1 ev (ev.onPostNote r) := by
  dsimp only [Ev.onPostNote]
  exact kept_unless (fun _ => by
    split
    · exact kept_refuse ..
    · refine .ite (kept_refuse ..) (.ite (kept_refuse ..) ?_)
      exact (kept_modPort _ _ _ ⟨Nat.le_refl _, Nat.le_refl _⟩).before ((kept_notify ..).before (kept_done ..)))

theorem kept_onSetHold : Kept r.port 1 ev (ev.onSetHold r) := by
  dsimp only [Ev.onSetHold]
  exact kept_unless (fun _ => by
    split
    · exact kept_refuse ..
    · exact (kept_onState _ _ rfl rfl rfl).before ((kept_done ..).behind (kept_checkLine _)))

theorem kept_remask {p : Port} (ev : Ev) (i : SlotId) (add : Bool) (kinds : CondSet) : Kept p 0 ev (ev.modSlot i (·.remask add kinds)) := by
  obtain ⟨m, b, h⟩ : ∃ m b, (ev.slot i).remask add kinds = { ev.slot i with
      mask := m, crusher := { (ev.slot i).crusher with wearBlock := b } } := by
    unfold Slot.remask
    dsimp only
    split
    · exact ⟨_, _, rfl⟩
    · exact ⟨_, _, rfl⟩
  refine .modSlotAlike ev i _ ?_ ?_ ?_ ?_ ?_ ?_ ?_ <;> rw [h]
  · exact ⟨rfl, rfl, rfl, rfl, id⟩
  · exact id
  · exact ⟨rfl, rfl⟩

theorem kept_onMask (c : ReqCode) (add : Bool) : Kept r.port 1 ev (ev.onMask c add r) := by
  dsimp only [Ev.onMask]
  exact kept_unless (fun _ => by
    split
    · exact kept_refuse ..
    · exact .ite (kept_refuse ..) ((Kept.each (fun ev i => kept_remask ev i _ _) _ _).before (kept_done ..)))

theorem kept_onClearConditions : Kept r.port 1 ev (ev.onClearConditions r) := by
  dsimp only [Ev.onClearConditions]
  exact kept_unless (fun _ => by
    have hslots : Kept r.port 0 ev (ev.each (slotSetAt r.payload 0).slots (fun ev i => ev.modSlot i (fun x => { x with conds := 0 }))) :=
      .each (fun ev i => .modSlot _ _ _ ⟨rfl, rfl, rfl, rfl, rfl⟩) ..
    refine Kept.before (.ite (hslots.before (kept_onState _ _ rfl rfl rfl)) hslots) (kept_done ..))

theorem kept_onSubscribe : Kept r.port 1 ev (ev.onSubscribe r) := by
  dsimp only [Ev.onSubscribe]
  exact kept_unless (fun _ =>
    (kept_modPort _ _ _ ⟨Nat.le_refl _, Nat.le_refl _⟩).before (kept_done ..))

/-! ### Requests of the motion controllers (chapters 3 to 5) -/

theorem kept_addRequest {c : ReqCode} {e : Entry} {v : Int} {accept : Crusher → Crusher} (hopen : ∀ b, (ev.crusher i).motion ≠ .blocked b)
    (haccept : ∀ c, accept c = { c with stack := (accept c).stack }) : Kept r.port 1 ev (ev.addRequest c r i e v accept) := by
  unfold Ev.addRequest
  split
  · exact kept_refuse ..
  · next ev' hroom =>
    obtain ⟨q, hcrusher⟩ := crusher_makeRoom hroom
    have haccepted : Kept r.port 0 ev' (ev'.modCrusher i accept) := by
      refine .of_tended ((Tended.refl i ev').modCrusher accept (fun c => by rw [haccept]; exact ⟨rfl, rfl, rfl⟩))
        (fun h => lawful_modCrusher h _ ?_)
      rw [haccept]
      exact ⟨rfl, rfl, rfl, rfl, id⟩
    refine Kept.before (Kept.joinQueue ((kept_makeRoom hroom).before haccepted) (fun hq => ?_) (fun b => ?_) e)
      ((kept_check ..).before (kept_answerAt ..))
    · rw [crusher_modCrusher, haccept]; exact makeRoom_room hroom hq
    · rw [crusher_modCrusher, haccept, hcrusher]; exact hopen b

theorem kept_onSetGap : Kept r.port 1 ev (ev.onSetGap r) := by
  dsimp only [Ev.onSetGap]
  exact kept_onCrusher (fun i _ => kept_unless (fun hgate => by
    obtain ⟨hgate, -⟩ := Option.or_eq_none_iff.1 hgate
    split
    · exact kept_refuse ..
    · exact kept_addRequest (moveGate_notBlocked hgate) (fun _ => rfl)))

theorem kept_onStepGap : Kept r.port 1 ev (ev.onStepGap r) := by
  dsimp only [Ev.onStepGap]
  exact kept_onCrusher (fun i _ => kept_unless (fun hgate =>
    kept_addRequest (moveGate_notBlocked (Option.or_eq_none_iff.1 hgate).1) (fun _ => rfl)))

theorem kept_onRecall : Kept r.port 1 ev (ev.onRecall r) := by
  dsimp only [Ev.onRecall]
  exact kept_onCrusher (fun i _ => kept_unless (fun hgate => by
    split
    · exact kept_refuse ..
    · split
      · exact kept_refuse ..
      · exact kept_addRequest (moveGate_notBlocked hgate) (fun _ => rfl)))

theorem kept_onSuspend : Kept r.port 1 ev (ev.onSuspend r) := by
  dsimp only [Ev.onSuspend]
  exact kept_onCrusher (fun i _ => kept_unless (fun _ =>
    (Kept.of_tended ((Tended.refl i ev).addCause _) (lawful_addCause · _)).before (kept_done ..)))

theorem kept_onResume : Kept r.port 1 ev (ev.onResume r) := by
  dsimp only [Ev.onResume]
  exact kept_onCrusher (fun i _ => kept_unless (fun _ => by
    have ht := (Tended.refl i ev).onMove (fun m => (m.adopt r (ev.reqno r.port)).resume ev.s.lineStop.state)
    have hresumed : Kept r.port 0 ev (ev.onMove i (fun m => (m.adopt r (ev.reqno r.port)).resume ev.s.lineStop.state)) := by
      refine .of_tended ht (fun h => ht.lawful ?_)
      rw [crusher_onMove]
      refine h.onMove (fun m => ?_)
      unfold MoveRec.resume MoveRec.adopt
      split <;> rfl
    exact kept_follow (hresumed.before ((Kept.of_tended (Tended.refl i _).testCauses lawful_testCauses).before (kept_answerAt ..))) i))

/-- Cleared marks leave the order of a queue (R56). -/
theorem QueueOk.release {c : Crusher} (h : QueueOk c.queue) (p : Entry → Bool) : QueueOk (c.release p).queue := by
  refine ⟨by simpa [Crusher.release] using h.1, ?_⟩
  unfold Crusher.release
  refine List.pairwise_map.2 (h.2.imp (fun hab => ?_))
  have hsame : ∀ e : Entry, (if p e = true then { e with staged := false } else e).priority = e.priority := fun e => by split <;> rfl
  rwa [hsame, hsame]

theorem kept_go (l : List SlotId) (p : Entry → Bool) : Kept r.port 1 ev (ev.go r l p) := by
  unfold Ev.go
  split
  · exact kept_refuse ..
  · refine Kept.behind (Kept.before (.each (fun ev i => ?_) ..) (kept_done ..)) (.each (fun ev i => kept_check ..) ..)
    refine .of_tended ((Tended.refl i ev).crusherTo _ (fun h => h.release p) (.inl ⟨rfl, rfl⟩)) (fun h => lawful_modCrusher h _ ?_)
    exact ⟨rfl, rfl, rfl, rfl, fun hq => by simp [Crusher.release, hq]⟩

theorem kept_onGo : Kept r.port 1 ev (ev.onGo r) := by
  dsimp only [Ev.onGo]
  exact kept_unless (fun _ => by
    refine .ite (kept_unless (fun _ => kept_go ..)) (.ite ?_ (kept_refuse ..))
    split
    · exact kept_refuse ..
    · exact .ite (kept_refuse ..) (.ite (kept_refuse ..) (kept_go ..)))

theorem kept_onFlush : Kept r.port 1 ev (ev.onFlush r) := by
  dsimp only [Ev.onFlush]
  exact kept_onCrusher (fun i _ =>
    (kept_done ..).behind (.of_tended (Tended.refl i _).flushSlot lawful_flushSlot))

/-- What the checks of CALIBRATE leave: a crusher at rest with its lockout input released (R85). -/
theorem calRefusal_none {s : State} (h : s.calRefusal i = none) :
    (s.slots.get i).lockout.state = false
      ∧ ((s.slots.get i).crusher.motion = .idle ∨ ∃ b, (s.slots.get i).crusher.motion = .blocked b) := by
  unfold State.calRefusal at h
  dsimp only at h
  split at h
  · cases h
  · next hfree =>
    refine ⟨by simpa using hfree, ?_⟩
    split at h
    · cases h
    · split at h
      · cases h
      · split at h
        · next hm => exact .inl hm
        · next hm => exact .inr ⟨_, hm⟩
        · cases h
        · cases h

theorem kept_onCalibrate : Kept r.port 1 ev (ev.onCalibrate r) := by
  dsimp only [Ev.onCalibrate]
  exact kept_onCrusher (fun i _ => kept_unless (fun hgate => by
    obtain ⟨hfree, hrest⟩ := calRefusal_none hgate
    have ht : Tended i ev (ev.startCal r i) := by unfold Ev.startCal; exact (Tended.refl i ev).modCrusher _
    have hstarted : Kept r.port 0 ev (ev.startCal r i) := .of_tended ht (lawful_startCal · hrest hfree r)
    exact hstarted.before ((kept_answer ..).behind (.of_tended (Tended.refl i _).enterCalDrain lawful_enterCalDrain))))

theorem kept_onClearBlock : Kept r.port 1 ev (ev.onClearBlock r) := by
  dsimp only [Ev.onClearBlock]
  exact kept_onCrusher (fun i _ => kept_unless (fun hgate => by
    have hblocked : ∃ b, (ev.crusher i).motion = .blocked b := by
      unfold Slot.clearRefusal at hgate
      split at hgate
      · next hm => exact ⟨_, hm⟩
      · next hm => exact ⟨_, hm⟩
      · cases hgate
      · cases hgate
    have hcleared : Kept r.port 0 ev ((((ev.setMotion i .idle).lowerLinked i .relief)).modCrusher i (fun c => { c with history := [] })) := by
      refine .of_tended (((Tended.refl i ev).setMotion _).lowerLinked _ |>.modCrusher _) (fun h => lawful_modCrusher
        (lawful_alike (lawful_unblock h (.inr hblocked)) ((Tended.refl i _).lowerLinked _) (.of_eq (crusher_lowerLinked ..))) _
        ⟨rfl, rfl, rfl, rfl, id⟩)
    exact hcleared.before ((kept_done ..).behind (kept_check ..))))

/-! ### Requests of the feeders and the line change unit (chapters 6 and 8) -/

theorem kept_onSetRate : Kept r.port 1 ev (ev.onSetRate r) := by
  dsimp only [Ev.onSetRate]
  exact kept_onFeeder (fun i => kept_unless (fun _ => by
    split
    · exact kept_refuse ..
    · refine kept_unless (fun _ => ?_)
      have hwritten : ∀ rb mode ls, Kept r.port 0 ev (ev.writeRate i rb mode ls) := fun _ _ _ => .of_spared (spared_writeRate ..)
      exact .ite ((hwritten ..).before (kept_answer ..)) ((hwritten ..).before (kept_done ..))))

theorem kept_onStartFeed : Kept r.port 1 ev (ev.onStartFeed r) := by
  dsimp only [Ev.onStartFeed]
  exact kept_onFeeder (fun i => kept_unless (fun _ =>
    Kept.before (.ite (kept_enterRun ..) (.refl _ ev)) (kept_done ..)))

theorem kept_onStopFeed : Kept r.port 1 ev (ev.onStopFeed r) := by
  dsimp only [Ev.onStopFeed]
  exact kept_onFeeder (fun i =>
    Kept.before (.ite (.refl _ ev) (kept_enterRun ..)) (kept_done ..))

theorem kept_onStartLine : Kept r.port 1 ev (ev.onStartLine r) := by
  dsimp only [Ev.onStartLine]
  exact kept_unless (fun _ =>
    (Kept.each (fun ev i => kept_enterRun ev i _ _) _ _).before (kept_answer ..))

theorem kept_onApplyRecipe : Kept r.port 1 ev (ev.onApplyRecipe r) := by
  dsimp only [Ev.onApplyRecipe]
  exact kept_unless (fun _ => by
    split
    · exact kept_refuse ..
    · refine .ite (kept_refuse ..) (.ite (kept_refuse ..) ?_)
      split
      · exact kept_refuse ..
      · exact (kept_onState _ _ rfl rfl rfl).before ((kept_answer ..).behind ((kept_waveOne _).before (kept_waveTwo _))))

theorem kept_onAbortChange : Kept r.port 1 ev (ev.onAbortChange r) := by
  dsimp only [Ev.onAbortChange]
  exact kept_unless (fun _ => (kept_endChange ..).before (kept_done ..))

theorem kept_awaitStore {p : Port} (ev : Ev) (w : PendingReply) (ack : Bool) : Kept p 0 ev (ev.awaitStore w ack) :=
  .ite (kept_onState _ _ rfl rfl rfl) (.refl p ev)

theorem kept_onSaveRecipe : Kept r.port 1 ev (ev.onSaveRecipe r) := by
  dsimp only [Ev.onSaveRecipe]
  exact kept_unless (fun _ => by
    split
    · exact kept_refuse ..
    · exact kept_unless (fun _ => (kept_onState _ _ rfl rfl rfl).before ((kept_markDirty ..).before ((kept_awaitStore ..).before (kept_answer ..)))))

end

end Sys2Proof.Proofs
end


section
/-! PROOF. Writes of commissioning records, LINE_RESET and the commands of the part keep the bounds: what every step keeps (R36, R42, R79, R159,
R176). -/

namespace Sys2Proof.Proofs

open Sys2Proof Sys2Proof.Machine

set_option Elab.async false

section
variable {p : Port} {ev : Ev} {i : SlotId}

theorem crusher_modSlot_other (ev : Ev) (i : SlotId) (f : Slot → Slot) (j : SlotId)
    (hf : ∀ x, (f x).crusher = x.crusher := by exact fun _ => rfl) : (ev.modSlot i f).crusher j = ev.crusher j := by
  by_cases hj : j = i
  · subst hj; rw [Ev.crusher, slot_modSlot, hf]; rfl
  · exact congrArg Slot.crusher (State.modSlot_slot_ne _ _ hj)

/-! ### The inhibit reasons a write moves (R14) -/

theorem kept_lowerHeld (ev : Ev) (x : Slot) (f : SlotId) : Kept p 0 ev (ev.lowerHeld x f) := .foldl (fun ev r => kept_lower ev f r) ..

theorem kept_raiseHeld (ev : Ev) (x : Slot) (f : SlotId) : Kept p 0 ev (ev.raiseHeld x f) := .foldl (fun ev r => kept_raise ev f r) ..

theorem crusher_lowerHeld (ev : Ev) (x : Slot) (f j : SlotId) : (ev.lowerHeld x f).crusher j = ev.crusher j :=
  crusher_foldl _ _ (fun ev r => crusher_lower ev j f r) _

theorem crusher_raiseHeld (ev : Ev) (x : Slot) (f j : SlotId) : (ev.raiseHeld x f).crusher j = ev.crusher j :=
  crusher_foldl _ _ (fun ev r => crusher_raise ev j f r) _

theorem kept_moveReasons (ev : Ev) (x : Slot) (old new : Option SlotId) : Kept p 0 ev (ev.moveReasons x old new) := by
  unfold Ev.moveReasons
  dsimp only
  split
  · exact .refl p ev
  · split <;> split
    · exact (kept_lowerHeld ..).before (kept_raiseHeld ..)
    · exact kept_raiseHeld ..
    · exact kept_lowerHeld ..
    · exact .refl p ev

theorem crusher_moveReasons (ev : Ev) (x : Slot) (old new : Option SlotId) (j : SlotId) :
    (ev.moveReasons x old new).crusher j = ev.crusher j := by
  unfold Ev.moveReasons
  dsimp only
  split
  · rfl
  · split <;> split <;> simp [crusher_lowerHeld, crusher_raiseHeld]

/-! ### A write that keeps the kind (R9, R13 to R15) -/

/-- A crusher that is IDLE or BLOCKED. -/
def AtRest (c : Crusher) : Prop := c.motion = .idle ∨ ∃ b, c.motion = .blocked b

/-- A change of holder takes entries from a crusher at rest, and nothing else (R125). -/
theorem crusher_handover_rest (h : AtRest (ev.crusher i)) (q : Port) : (ev.handover i q).crusher i =
    { ev.crusher i with queue := (ev.crusher i).queue.filter (fun e => !(e.origin == .port q)) } := by
  have hentries := crusher_handoverEntries ev i q
  have hstill : (ev.handoverEntries i q).addCause i .handover = ev.handoverEntries i q := by
    apply addCause_idle <;> rw [hentries]
    · rcases h with h | ⟨b, h⟩ <;> simp [InFlight, h]
    · rcases h with h | ⟨b, h⟩ <;> simp [Waiting, h]
  have hmove : (ev.handoverEntries i q).handoverMove i q = ev.handoverEntries i q := by
    unfold Ev.handoverMove
    rw [hstill, ite_self]
  rw [Ev.handover, crusher_changeHandover, hmove, hentries]

theorem wear_addCause (ev : Ev) (i : SlotId) (k : Cause) :
    ((ev.addCause i k).crusher i).w = (ev.crusher i).w ∧ ((ev.addCause i k).crusher i).wAtMove = (ev.crusher i).wAtMove := by
  by_cases hflight : InFlight (ev.crusher i).motion
  · rw [crusher_addCause_inFlight hflight]; exact ⟨rfl, rfl⟩
  · by_cases hwait : Waiting (ev.crusher i).motion
    · rw [crusher_addCause_waiting hwait]; exact ⟨rfl, rfl⟩
    · rw [addCause_idle hflight hwait]; exact ⟨rfl, rfl⟩

theorem wear_handover (ev : Ev) (i : SlotId) (q : Port) :
    ((ev.handover i q).crusher i).w = (ev.crusher i).w ∧ ((ev.handover i q).crusher i).wAtMove = (ev.crusher i).wAtMove := by
  rw [Ev.handover, crusher_changeHandover]
  unfold Ev.handoverMove
  split
  · obtain ⟨hw, hat⟩ := wear_addCause (ev.handoverEntries i q) i .handover
    rw [hw, hat, crusher_handoverEntries]
    exact ⟨rfl, rfl⟩
  · rw [crusher_handoverEntries]; exact ⟨rfl, rfl⟩

theorem setHolder_crusher (ev : Ev) (i : SlotId) (h : Option Port) (c : AuthCause) : (ev.setHolder i h c).crusher i = ev.crusher i
    ∨ ∃ q, (ev.setHolder i h c).crusher i = (((ev.modSlot i (fun x => { x with holder := h })).handover i q).crusher i) := by
  unfold Ev.setHolder
  dsimp only
  split
  · exact .inl rfl
  · split
    · exact .inr ⟨_, rfl⟩
    · exact .inl (by rw [crusher_notify, Ev.crusher, slot_modSlot]; rfl)

theorem crusher_holder (ev : Ev) (i : SlotId) (h : Option Port) : (ev.modSlot i (fun x => { x with holder := h })).crusher i = ev.crusher i := by
  rw [Ev.crusher, slot_modSlot]; rfl

theorem wear_reexamine (ev : Ev) (i : SlotId) :
    ((ev.reexamine i).crusher i).w = (ev.crusher i).w ∧ ((ev.reexamine i).crusher i).wAtMove = (ev.crusher i).wAtMove := by
  unfold Ev.reexamine
  rcases setHolder_crusher ev i _ .area with h | ⟨q, h⟩ <;> rw [h]
  · exact ⟨rfl, rfl⟩
  · obtain ⟨hw, hat⟩ := wear_handover (ev.modSlot i _) i q
    rw [hw, hat, crusher_holder]
    exact ⟨rfl, rfl⟩

theorem atRest_reexamine (h : AtRest (ev.crusher i)) : AtRest ((ev.reexamine i).crusher i) := by
  unfold Ev.reexamine
  rcases setHolder_crusher ev i _ .area with hc | ⟨q, hc⟩ <;> rw [hc]
  · exact h
  · rw [crusher_handover_rest (by rwa [crusher_holder]), crusher_holder]; exact h

/-- A lowered WEAR_MAX takes W and W_at_move with it (R14). -/
theorem tended_lowerWear (ev : Ev) (i : SlotId) : Tended i ev (ev.lowerWear i) := by
  unfold Ev.lowerWear
  dsimp only
  split
  · exact .refl i ev
  · have hlowered : Tended i ev (((ev.modCrusher i (fun c => { c with
        w := (ev.slot i).cp.wearMax, wAtMove := min c.wAtMove (ev.slot i).cp.wearMax })).markDirty (.wear i)).record i .wearLimit) :=
      (((Tended.refl i ev).crusherTo _ id (.inr ⟨Nat.min_le_right .., fun _ => Nat.le_refl _⟩)).markDirty _).record _
    split
    · exact hlowered
    · split
      · exact hlowered.enterBlocked _
      · exact hlowered
      · exact hlowered.modCrusher _
      · exact hlowered

/-- What the lowering of W leaves of the crusher, ahead of the block it may take. -/
def lowered (x : Slot) : Crusher := { x.crusher with w := x.cp.wearMax, wAtMove := min x.crusher.wAtMove x.cp.wearMax }

theorem crusher_lowered (ev : Ev) (i : SlotId) : ((((ev.modCrusher i (fun c => { c with
    w := (ev.slot i).cp.wearMax, wAtMove := min c.wAtMove (ev.slot i).cp.wearMax })).markDirty (.wear i)).record i .wearLimit).crusher i) =
      lowered (ev.slot i) := by
  rw [crusher_record, crusher_markDirty, crusher_modCrusher]; rfl

theorem lowerWear_crusher (ev : Ev) (i : SlotId) : (ev.lowerWear i).crusher i = ev.crusher i ∧ (ev.crusher i).w ≤ (ev.slot i).cp.wearMax
    ∨ (ev.lowerWear i).crusher i = lowered (ev.slot i)
    ∨ (ev.crusher i).motion = .idle ∧ (ev.lowerWear i).crusher i =
        { (lowered (ev.slot i)).stopMoveTimers with motion := .blocked .wearLimit, queue := [] }
    ∨ (ev.lowerWear i).crusher i = { lowered (ev.slot i) with wearBlock := true } := by
  unfold Ev.lowerWear
  dsimp only
  split
  · next hle => exact .inl ⟨rfl, hle⟩
  · split
    · exact .inr (.inl (crusher_lowered ev i))
    · split
      · next hm =>
        refine .inr (.inr (.inl ⟨?_, ?_⟩))
        · rw [crusher_lowered] at hm; exact hm
        · rw [enterBlocked_crusher, crusher_lowered]
      · exact .inr (.inl (crusher_lowered ev i))
      · exact .inr (.inr (.inr (by rw [crusher_modCrusher, crusher_lowered])))
      · exact .inr (.inl (crusher_lowered ev i))

theorem wear_lowerWear (h : (ev.crusher i).wAtMove ≤ (ev.crusher i).w) : WearOk ((ev.lowerWear i).slot i) := by
  unfold WearOk
  rw [(tended_lowerWear ev i).cp]
  rcases lowerWear_crusher ev i with ⟨hc, hle⟩ | hc | ⟨-, hc⟩ | hc
  all_goals rw [show ((ev.lowerWear i).slot i).crusher = (ev.lowerWear i).crusher i from rfl, hc]
  · exact ⟨hle, h⟩
  all_goals exact ⟨Nat.le_refl _, Nat.min_le_right ..⟩

theorem atRest_lowerWear (h : AtRest (ev.crusher i)) : AtRest ((ev.lowerWear i).crusher i) := by
  rcases lowerWear_crusher ev i with ⟨hc, -⟩ | hc | ⟨-, hc⟩ | hc <;> rw [hc]
  · exact h
  · exact h
  · exact .inr ⟨_, rfl⟩
  · exact h

theorem lawful_lowerWear (h : Lawful i ev) : Lawful i (ev.lowerWear i) := by
  have hlowered : Alike (ev.crusher i) (lowered (ev.slot i)) := ⟨rfl, rfl, rfl, rfl, id⟩
  refine (tended_lowerWear ev i).lawful ?_
  rcases lowerWear_crusher ev i with ⟨hc, -⟩ | hc | ⟨hm, hc⟩ | hc <;> rw [hc]
  · exact h
  · exact h.alike hlowered
  · obtain ⟨hmove, hcal, hepisode, hstill⟩ := h.rests (.inl hm)
    exact Rests.blocked ⟨hmove, hcal, hepisode, hstill⟩ rfl rfl
  · exact h.alike (hlowered.trans ⟨rfl, rfl, rfl, rfl, id⟩)

theorem kept_switchLevel (ev : Ev) (i : SlotId) (old new : Bool) : Kept p 0 ev (ev.switchLevel i old new) := by
  have hset : ∀ a : Slot → Analog, Kept p 0 ev (ev.modSlot i (fun x => { x with level := a x })) :=
    fun a => .modSlot _ _ _ ⟨rfl, rfl, rfl, rfl, rfl⟩
  unfold Ev.switchLevel
  dsimp only
  exact .ite (.refl p ev) (.ite (hset (fun _ => .unread)) (.ite ((hset _).before (kept_levelLost ..)) (hset (fun x => { x.level with valid := false }))))

theorem kept_switchPower (ev : Ev) (i : SlotId) (old new : Bool) : Kept p 0 ev (ev.switchPower i old new) := by
  unfold Ev.switchPower
  exact .ite (.refl p ev) (.ite (.modSlot _ _ _ ⟨rfl, rfl, rfl, rfl, rfl⟩) (.modSlot _ _ _ ⟨rfl, rfl, rfl, rfl, rfl⟩))

theorem crusher_levelLost (ev : Ev) (c j : SlotId) : (ev.levelLost c).crusher j = ev.crusher j :=
  crusher_foldl _ _ (fun ev i => by split <;> simp) _

theorem crusher_switches (ev : Ev) (i : SlotId) (a b a' b' : Bool) :
    ((ev.switchLevel i a b).switchPower i a' b').crusher i = ev.crusher i := by
  have hlevel : (ev.switchLevel i a b).crusher i = ev.crusher i := by
    unfold Ev.switchLevel
    dsimp only
    split
    · rfl
    · split
      · exact crusher_modSlot_other ..
      · split
        · rw [crusher_levelLost]; exact crusher_modSlot_other ..
        · exact crusher_modSlot_other ..
  rw [← hlevel]
  unfold Ev.switchPower
  split
  · rfl
  · split <;> exact crusher_modSlot_other ..

theorem tended_narrowEnvelope (ev : Ev) (i : SlotId) : Tended i ev (ev.narrowEnvelope i) := by
  unfold Ev.narrowEnvelope
  dsimp only
  split
  · exact .refl i ev
  · exact (((Tended.refl i ev).modCrusher _).markDirty _).record _

theorem alike_narrowEnvelope (ev : Ev) (i : SlotId) : Alike (ev.crusher i) ((ev.narrowEnvelope i).crusher i) := by
  unfold Ev.narrowEnvelope
  dsimp only
  split
  · exact .refl _
  · rw [crusher_record, crusher_markDirty, crusher_modCrusher]; exact ⟨rfl, rfl, rfl, rfl, id⟩

theorem kept_narrowEnvelope (ev : Ev) (i : SlotId) : Kept p 0 ev (ev.narrowEnvelope i) :=
  .of_tended (tended_narrowEnvelope ev i) (lawful_alike · (tended_narrowEnvelope ev i) (alike_narrowEnvelope ev i))

theorem kept_endFault (ev : Ev) (i : SlotId) : Kept p 0 ev (ev.endFault i) := (kept_markDirty ..).before (kept_markDirty ..)

/-- A crusher's record is rewritten, and the steps behind it bring W under the new ceiling (R14). -/
theorem Kept.behindParams {ev' : Ev} {c : CrusherParams} (h : Kept p 0 (ev.modSlot i (fun x => { x with cp := c })) ev')
    (hw : (ev.crusher i).wAtMove ≤ (ev.crusher i).w → WearOk (ev'.slot i)) : Kept p 0 ev ev' := by
  have hcrusher : ∀ j, (ev.modSlot i (fun x => { x with cp := c })).crusher j = ev.crusher j :=
    fun j => crusher_modSlot_other ..
  have hother : ∀ j, j ≠ i → (ev.modSlot i (fun x => { x with cp := c })).slot j = ev.slot j := fun j hj => State.modSlot_slot_ne _ _ hj
  refine ⟨h.phase, h.ports, h.answers, fun j hq => h.queue j (by rwa [hcrusher]), fun j hok => ?_, fun j hl => h.law j ?_⟩
  · by_cases hj : j = i
    · subst hj; exact hw hok.2
    · exact h.wear j (by rwa [hother j hj])
  · by_cases hj : j = i
    · subst hj
      unfold LawAt Lawful
      rw [hcrusher, slot_modSlot]
      exact fun hk => (hl hk).congr rfl rfl rfl
    · unfold LawAt Lawful
      rw [hcrusher, hother j hj]
      exact hl

theorem kept_rewriteCrusher (ev : Ev) (i : SlotId) (c : CrusherParams) (hkind : (ev.slot i).kind.isCrusher = true) :
    Kept p 0 ev (ev.rewriteCrusher i c) := by
  set x := ev.slot i with hx
  set ev₁ := ev.modSlot i (fun x => { x with cp := c })
  have hcrusher : ev₁.crusher i = ev.crusher i := crusher_modSlot_other ..
  set ev₂ := ev₁.moveReasons x x.cp.linkedFeeder c.linkedFeeder
  have hreasons : Kept p 0 ev₁ ev₂ := kept_moveReasons ..
  have hcrusher₂ : ev₂.crusher i = ev.crusher i := (crusher_moveReasons ..).trans hcrusher
  obtain ⟨ev₃, hev₃⟩ : ∃ ev₃, (if x.cp.area = c.area then ev₂ else ev₂.reexamine i) = ev₃ := ⟨_, rfl⟩
  have hexamined : Kept p 0 ev₁ ev₃ := by rw [← hev₃]; exact hreasons.before (.ite (.refl p ev₂) (kept_reexamine ..))
  have hwear : (ev₃.crusher i).w = (ev.crusher i).w ∧ (ev₃.crusher i).wAtMove = (ev.crusher i).wAtMove := by
    rw [← hev₃]
    split
    · rw [hcrusher₂]; exact ⟨rfl, rfl⟩
    · rw [(wear_reexamine ev₂ i).1, (wear_reexamine ev₂ i).2, hcrusher₂]; exact ⟨rfl, rfl⟩
  have hrest : AtRest (ev.crusher i) → AtRest (ev₃.crusher i) := fun h => by
    rw [← hev₃]
    split
    · rwa [hcrusher₂]
    · exact atRest_reexamine (by rwa [hcrusher₂])
  have hlowered : Kept p 0 ev (ev₃.lowerWear i) :=
    Kept.behindParams (hexamined.before (.of_tended (tended_lowerWear ev₃ i) lawful_lowerWear))
      (fun hle => wear_lowerWear (by rw [hwear.1, hwear.2]; exact hle))
  set ev₄ := ((ev₃.lowerWear i).switchLevel i x.cp.levelIn c.levelIn).switchPower i x.cp.powerIn c.powerIn with hev₄
  have hnarrowed : Kept p 0 ev (ev₄.narrowEnvelope i) :=
    hlowered.before ((kept_switchLevel ..).before ((kept_switchPower ..).before (kept_narrowEnvelope ..)))
  have hshown : ev.rewriteCrusher i c =
      if x.paramFaulted then (((ev₄.narrowEnvelope i).endFault i).setMotion i .idle).check i else ev₄.narrowEnvelope i := by
    rw [hev₄, ← hev₃]; rfl
  rw [hshown]
  split
  · next hfault =>
    refine hnarrowed.before (Kept.before (kept_endFault _ i)
      (Kept.before (.of_tended ((Tended.refl i _).setMotion _) (fun h => lawful_unblock h ?_)) (kept_check ..)))
    have hblocked : AtRest (ev.crusher i) := by
      unfold Slot.paramFaulted at hfault
      cases hk' : x.kind <;> rw [hk'] at hfault hkind
      · cases hkind
      · exact .inr ⟨_, eq_of_beq hfault⟩
      · exact .inr ⟨_, eq_of_beq hfault⟩
      · cases hkind
    have hrest₄ : AtRest (ev₄.crusher i) := by rw [hev₄, crusher_switches]; exact atRest_lowerWear (hrest hblocked)
    have hrest₅ : AtRest ((ev₄.narrowEnvelope i).crusher i) := by
      unfold AtRest
      rw [(alike_narrowEnvelope ev₄ i).motion]
      exact hrest₄
    exact hrest₅
  · exact hnarrowed

theorem kept_narrowRates (ev : Ev) (i : SlotId) : Kept p 0 ev (ev.narrowRates i) := by
  unfold Ev.narrowRates
  exact .ite (.refl p ev) ((Kept.modFeeder ev i _).before ((kept_markDirty ..).before (kept_record ..)))

theorem kept_rewriteFeeder (ev : Ev) (i : SlotId) (f : FeederParams) : Kept p 0 ev (ev.rewriteFeeder i f) := by
  have hset : Kept p 0 ev (ev.modSlot i (fun x => { x with fp := f })) := .modSlot _ _ _ ⟨rfl, rfl, rfl, rfl, rfl⟩
  have hexamined : Kept p 0 ev (if (ev.slot i).fp.area = f.area then ev.modSlot i (fun x => { x with fp := f })
      else (ev.modSlot i (fun x => { x with fp := f })).reexamine i) := .ite hset (hset.before (kept_reexamine ..))
  have hnarrowed := hexamined.before (kept_narrowRates _ i)
  unfold Ev.rewriteFeeder
  exact .ite (hnarrowed.before ((kept_endFault ..).before (.modFeeder ..))) hnarrowed

theorem kept_rewriteUnused (ev : Ev) (i : SlotId) : Kept p 0 ev (ev.rewriteUnused i) := by
  unfold Ev.rewriteUnused
  exact .ite ((kept_endFault ..).before (.modSlot _ _ _ ⟨rfl, rfl, rfl, rfl, rfl⟩)) (.refl p ev)

/-! ### A write that changes the kind (R16) -/

/-- A slot is born anew: no queue, no wear, and records at rest. -/
theorem Kept.reborn (ev : Ev) (i : SlotId) (r : Record) : Kept p 0 ev (ev.modSlot i (·.reborn r)) := by
  have hother : ∀ j, j ≠ i → (ev.modSlot i (·.reborn r)).slot j = ev.slot j := fun j hj => State.modSlot_slot_ne _ _ hj
  refine ⟨rfl, fun _ => ⟨Nat.le_refl _, Nat.le_refl _⟩, fun q => answers_of_finals (.same rfl) q _, fun j hq => ?_, fun j hw => ?_, fun j hl => ?_⟩
  · by_cases hj : j = i
    · subst hj; rw [Ev.crusher, slot_modSlot]; exact .nil
    · rw [Ev.crusher, hother j hj]; exact hq
  · by_cases hj : j = i
    · subst hj; rw [slot_modSlot]; exact ⟨Nat.zero_le _, Nat.le_refl _⟩
    · rw [hother j hj]; exact hw
  · by_cases hj : j = i
    · subst hj
      unfold LawAt Lawful Ev.crusher
      rw [slot_modSlot]
      refine fun _ => Rests.idle ⟨rfl, rfl, rfl, fun hk => ?_⟩ rfl
      unfold Slot.reborn
      dsimp only
      split <;> rfl
    · unfold LawAt Lawful Ev.crusher
      rw [hother j hj]
      exact hl

/-- What follows the birth of a slot's new kind: its records, LOCKOUT, a relief start at an asserted switch, and its holder (R3, R16, R62). -/
theorem Kept.born {ev ev₁ : Ev} {i : SlotId} (h : Kept p 0 ev ev₁) (x : Slot) (r : Record) : Kept p 0 ev (
    let ev := (ev₁.modSlot i (·.reborn r)).holdDrive i
    let ev := ((ev.markDirty (.param i)).markDirty (.cal i)).markDirty (.wear i)
    let ev := if r.kind.isCrusher && x.lockout.state then ev.raiseLinked i .lockout else ev
    let ev := if r.kind = .cone ∧ (ev.slot i).relief.state then ev.reliefStart i else ev
    if r.kind = .unused then ev.setHolder i none .kind
    else if x.kind = .unused ∨ x.area ≠ r.area then ev.reexamine i
    else ev) := by
  extract_lets ev₂ ev₃ ev₄ ev₅
  have hborn := Kept.reborn (p := p) ev₁ i r
  have ht : Tended i (ev₁.modSlot i (·.reborn r)) ev₄ := by
    have hdirty := (((Tended.refl i (ev₁.modSlot i (·.reborn r))).holdDrive.markDirty (.param i)).markDirty (.cal i)).markDirty (.wear i)
    exact (hdirty.raiseLinked .lockout).ite hdirty
  have hsame : ev₄.crusher i = (ev₁.modSlot i (·.reborn r)).crusher i := by
    show (if _ then ev₃.raiseLinked i .lockout else ev₃).crusher i = _
    have hdirty : ev₃.crusher i = (ev₁.modSlot i (·.reborn r)).crusher i := by
      show (((ev₂.markDirty _).markDirty _).markDirty _).crusher i = _
      simp only [crusher_markDirty]
      exact crusher_holdDrive ..
    split
    · rw [crusher_raiseLinked, hdirty]
    · exact hdirty
  have hkind : (ev₄.slot i).kind = r.kind := by rw [ht.kind, slot_modSlot]; rfl
  have h₄ : Kept p 0 ev ev₄ := h.before (hborn.before (.of_tended ht (lawful_alike · ht (.of_eq hsame))))
  have h₅ : Kept p 0 ev ev₅ := by
    show Kept p 0 ev (if _ then ev₄.reliefStart i else ev₄)
    split
    · next hcone =>
      exact h₄.before (.of_tended (Tended.refl i ev₄).reliefStart (lawful_reliefStart · (by rw [hkind, hcone.1]; decide)))
    · exact h₄
  exact .ite (h₅.before (kept_setHolder ..)) (.ite (h₅.before (kept_reexamine ..)) h₅)

theorem kept_changeKind (ev : Ev) (i : SlotId) (r : Record) : Kept p 0 ev (ev.changeKind i r) := by
  unfold Ev.changeKind
  refine Kept.born ?_ (ev.slot i) r
  split
  · exact kept_lowerHeld ..
  · exact .refl p ev

/-! ### Requests on commissioning records (R10 to R16, R99, R131) -/

theorem recordOf_crusher {payload : List Byte} {k : Kind} {c : CrusherParams} (h : recordOf payload = some (.crusher k c)) :
    k.isCrusher = true := by
  unfold recordOf at h
  split at h
  · cases h
  · obtain ⟨c', -, hc⟩ := Option.map_eq_some_iff.1 h; cases hc; rfl
  · obtain ⟨c', -, hc⟩ := Option.map_eq_some_iff.1 h; cases hc; rfl
  · obtain ⟨c', -, hc⟩ := Option.map_eq_some_iff.1 h; cases hc
  · cases h

theorem kept_writeRecord (ev : Ev) (i : SlotId) {payload : List Byte} {rec : Record} (h : recordOf payload = some rec) :
    Kept p 0 ev (ev.writeRecord i rec) := by
  have hdirty : Kept p 0 ev (ev.markDirty (.param i)) := kept_markDirty ..
  unfold Ev.writeRecord
  dsimp only
  split
  · exact hdirty.before (kept_changeKind ..)
  · next hkind =>
    refine hdirty.before ?_
    split
    · exact kept_rewriteUnused ..
    · next k c =>
      refine kept_rewriteCrusher _ _ _ ?_
      rw [← of_not_not hkind]
      exact recordOf_crusher h
    · exact kept_rewriteFeeder ..

theorem kept_writeThresholds (ev : Ev) (t : BinThresholds) : Kept p 0 ev (ev.writeThresholds t) := by
  have hset : Kept p 0 ev ((ev.onState (fun s => { s with bin := { s.bin with thresholds := t } })).markDirty .line) :=
    (kept_onState _ _ rfl rfl rfl).before (kept_markDirty ..)
  unfold Ev.writeThresholds
  exact .ite hset (hset.before (kept_setBinState ..))

end

section
variable {ev : Ev} {r : Request}

theorem kept_onWriteParams : Kept r.port 1 ev (ev.onWriteParams r) := by
  unfold Ev.onWriteParams
  split
  · dsimp only [Ev.writeLine]
    exact kept_unless (fun _ => (kept_answer ..).behind ((kept_awaitStore ..).before (kept_writeThresholds ..)))
  · split
    · exact kept_refuse ..
    · unfold Ev.writeSlot
      split
      · exact kept_refuse ..
      · exact kept_refuse ..
      · next hrec => exact (kept_answer ..).behind ((kept_awaitStore ..).before (kept_writeRecord _ _ hrec))

theorem kept_onLockParams : Kept r.port 1 ev (ev.onLockParams r) := by
  unfold Ev.onLockParams
  split
  · exact kept_refuse ..
  · refine kept_unless (fun _ => ?_)
    split
    · exact kept_refuse ..
    · dsimp only [Ev.lockSlot]
      refine kept_unless (fun _ => Kept.before (.modSlot _ _ _ ⟨rfl, rfl, rfl, rfl, rfl⟩) ((kept_markDirty ..).before
        ((kept_awaitStore ..).before (kept_answer ..))))

/-! ### LINE_RESET (R61, R75, R94, R184) -/

theorem reset_frame (c : Crusher) : c.reset.queue = [] ∧ c.reset.w = c.w ∧ c.reset.wAtMove = c.wAtMove := by
  unfold Crusher.reset
  dsimp only
  split <;> exact ⟨rfl, rfl, rfl⟩

/-- In the states of a move or a run the reset leaves IDLE. -/
theorem reset_ends {c : Crusher} (h : (InFlight c.motion ∨ c.motion = .suspended) ∨ c.motion = .calibrating) :
    c.reset.motion = .idle ∧ c.reset.move = none ∧ c.reset.cal = none
      ∧ c.reset.episode = c.episode.map (fun e => { e with returnTo := .idle }) := by
  rcases h with ((h | h | h) | h) | h <;> simp [Crusher.reset, h, Crusher.stopMoveTimers]

/-- In any other state it leaves the state and takes the move (R61, R75). -/
theorem reset_stays {c : Crusher} (h : AtRest c ∨ c.motion.inEpisode = true) :
    c.reset.motion = c.motion ∧ c.reset.move = none ∧ c.reset.cal = c.cal
      ∧ c.reset.episode = c.episode.map (fun e => { e with returnTo := .idle }) := by
  rw [inEpisode_iff] at h
  rcases h with (h | ⟨b, h⟩) | h | h <;> simp [Crusher.reset, h]

/-- The work that LINE_RESET ends leaves the crusher IDLE, BLOCKED or in an episode that carries no move (R61, R75, R94). -/
theorem Fits.reset {x : Slot} {c : Crusher} (h : Fits x c) : Fits x c.reset := by
  have hstill : x.kind = .jaw → x.relief.timer = none := fun hk => (h.jaw hk).2
  have hends : (InFlight c.motion ∨ c.motion = .suspended) ∨ c.motion = .calibrating → c.episode = none → Fits x c.reset := by
    intro hm hnone
    obtain ⟨hmotion, hmove, hcal, hepisode⟩ := reset_ends hm
    exact Rests.idle ⟨hmove, hcal, by rw [hepisode, hnone]; rfl, hstill⟩ hmotion
  have hrests : AtRest c → Fits x c.reset := by
    intro hm
    obtain ⟨hmotion, hmove, hcal, hepisode⟩ := reset_stays (.inl hm)
    obtain ⟨-, hcal', hnone, -⟩ := h.rests hm
    have hrest : Rests x c.reset := ⟨hmove, hcal.trans hcal', by rw [hepisode, hnone]; rfl, hstill⟩
    rcases hm with hm | ⟨b, hm⟩
    · exact hrest.idle (hmotion.trans hm)
    · exact hrest.blocked (hmotion.trans hm) (reset_frame c).1
  rcases motion_cases c.motion with (hidle | hcalibrates | hblocked) | hgoes | hin
  · exact hrests (.inl hidle)
  · refine hends (.inr hcalibrates) (h.calibrates ?_).2.2
    have hc := h.coherent
    unfold MotionCoherent at hc
    rw [hcalibrates] at hc
    exact hc.2.1
  · exact hrests (.inr hblocked)
  · exact hends (.inl hgoes) (h.underway hgoes).episode
  · obtain ⟨hmotion, hmove, hcal, hepisode⟩ := reset_stays (.inr hin)
    obtain ⟨hcal', hopen⟩ := h.episode hin
    refine ⟨?_, fun _ _ _ => hmove, ?_, fun hk => absurd hk (h.noJaw hin), fun hlock => ?_⟩
    · unfold MotionCoherent
      rw [hmotion]
      rcases (inEpisode_iff _).1 hin with hm | hm <;> rw [hm] <;> exact ⟨hcal.trans hcal', by rw [hepisode]; simpa using hopen⟩
    · rw [hmotion, hmove]
      rintro (hd | ⟨m, hm, -⟩)
      · rw [hd] at hin; cases hin
      · cases hm
    · rw [hmotion]
      refine (h.locked hlock).imp_left (fun ⟨hm, _, habandoned⟩ => ⟨hm, hmove, fun e he => ?_⟩)
      rw [hepisode, Option.mem_def, Option.map_eq_some_iff] at he
      obtain ⟨e', he', rfl⟩ := he
      exact habandoned e' he'

theorem kept_resetCrusher {p : Port} (ev : Ev) (i : SlotId) : Kept p 0 ev (ev.resetCrusher i) := by
  have hheld : Kept p 0 ev (if (ev.slot i).crusher.motion = .recovering then ev else ev.holdDrive i) :=
    .ite (.refl p ev) (.of_tended (Tended.refl i ev).holdDrive lawful_holdDrive)
  have hreset : ∀ ev' : Ev, Kept p 0 ev' (ev'.modCrusher i (·.reset)) := fun ev' => by
    obtain ⟨hqueue, hw, hat⟩ := reset_frame (ev'.crusher i)
    refine .of_tended ((Tended.refl i ev').crusherTo _ (fun _ => by rw [hqueue]; exact .nil) (.inl ⟨hw, hat⟩)) (fun h => ?_)
    unfold Lawful
    rw [crusher_modCrusher, slot_modCrusher]
    exact h.reset.congr rfl rfl rfl
  unfold Ev.resetCrusher
  dsimp only
  split
  · exact hheld.before ((Kept.of_tended ((Tended.refl i _).lowerLinked _)
      (lawful_alike · ((Tended.refl i _).lowerLinked _) (.of_eq (crusher_lowerLinked ..)))).before (hreset _))
  · exact hheld.before (hreset _)

theorem kept_resetSlot {p : Port} (ev : Ev) (i : SlotId) : Kept p 0 ev (ev.resetSlot i) := by
  unfold Ev.resetSlot
  dsimp only
  refine Kept.before ?_ (.modSlot _ _ _ ⟨rfl, rfl, rfl, rfl, rfl⟩)
  split
  · exact kept_resetCrusher ..
  · exact kept_resetCrusher ..
  · exact .modFeeder ..
  · exact .refl p ev

theorem kept_resetAll {p : Port} (ev : Ev) : Kept p 0 ev ev.resetAll := by
  unfold Ev.resetAll
  refine (Kept.each (fun ev i => kept_resetSlot ev i) slotIds ev).before (.of_akin rfl (fun q => ?_) (fun q => Nat.zero_le _) (fun j => ?_))
  · simp [Ev.silence, State.resetLine, PortState.reset]
  · simp only [Ev.slot, Ev.silence, Ev.onState_s, State.resetLine, State.resetHolders, PerSlot.get_of]
    exact ⟨rfl, rfl, rfl, rfl, rfl⟩

theorem kept_onLineReset : Kept r.port 1 ev (ev.onLineReset r) := by
  dsimp only [Ev.onLineReset]
  exact kept_unless (fun _ => (kept_resetAll ev).before (.immediateAt ..))

/-! ### The request of a frame (R173) -/

theorem kept_onEcho : Kept r.port 1 ev (ev.onEcho r) := by
  dsimp only [Ev.onEcho]
  exact kept_unless (fun _ => kept_done ..)

theorem kept_onReadLine : Kept r.port 1 ev (ev.onReadLine r) := by
  dsimp only [Ev.onReadLine]
  exact kept_unless (fun _ => kept_done ..)

/-- Whatever block takes a request keeps the bounds, and raises at most its one immediate reply. -/
theorem kept_handle (c : ReqCode) (r : Request) (ev : Ev) : Kept r.port 1 ev (Ev.handle c r ev) := by
  cases c with
  | echo => exact kept_onEcho
  | readSlot => exact kept_onReadSlot
  | readQueue => exact kept_onReadQueue
  | readLine => exact kept_onReadLine
  | readReliefs => exact kept_onReadReliefs
  | readRecipe => exact kept_onReadRecipe
  | readNote => exact kept_onReadNote
  | take => exact kept_onTake
  | release => exact kept_onRelease
  | hand => exact kept_onHand
  | postNote => exact kept_onPostNote
  | setHold => exact kept_onSetHold
  | setGap => exact kept_onSetGap
  | stepGap => exact kept_onStepGap
  | recallGap => exact kept_onRecall
  | suspend => exact kept_onSuspend
  | resume => exact kept_onResume
  | go => exact kept_onGo
  | flush => exact kept_onFlush
  | calibrate => exact kept_onCalibrate
  | clearBlock => exact kept_onClearBlock
  | setRate => exact kept_onSetRate
  | startFeed => exact kept_onStartFeed
  | stopFeed => exact kept_onStopFeed
  | startLine => exact kept_onStartLine
  | applyRecipe => exact kept_onApplyRecipe
  | abortChange => exact kept_onAbortChange
  | saveRecipe => exact kept_onSaveRecipe
  | writeParams => exact kept_onWriteParams
  | lockParams => exact kept_onLockParams
  | setMask => exact kept_onMask ..
  | clearMask => exact kept_onMask ..
  | clearConditions => exact kept_onClearConditions
  | subscribe => exact kept_onSubscribe
  | lineReset => exact kept_onLineReset

end

/-! ### The commands of the part -/

section
variable {s : State}

theorem keeps_modPort (s : State) (p : Port) (f : PortState → PortState) (hf : (f (s.ports.get p)).tx.length ≤ (s.ports.get p).tx.length
      ∧ (f (s.ports.get p)).notices.length ≤ (s.ports.get p).notices.length) : KeepsLaws s (s.modPort p f) := by
  refine .of_akin rfl (fun q => ?_) (fun _ => .refl _)
  by_cases hq : q = p
  · subst hq; simpa using hf
  · simp [hq]

theorem keeps_taking (s : State) (p : Port) (f : Ev → Ev) (hf : ∀ ev, Kept p 1 ev (f ev)) : KeepsLaws s (s.taking p f) := by
  unfold State.taking
  split
  · next htakes =>
    obtain ⟨hp, -, htx⟩ := State.takes_spec htakes
    have hcount : KeepsLaws s (s.countRequest p) := keeps_modPort _ _ _ ⟨Nat.le_refl _, Nat.le_refl _⟩
    refine hcount.trans ((hf _).commit hp (.inl ?_))
    rw [State.countRequest_port]
    exact htx
  · exact .refl s

theorem keeps_takeRequest (s : State) (c : ReqCode) (r : Request) : KeepsLaws s (s.takeRequest c r (Ev.handle c r)) :=
  keeps_taking _ _ _ (fun ev => .ite (kept_handle c r ev) (kept_refuse ..))

theorem keeps_takeFrame (s : State) (k : Byte) (r : Request) : KeepsLaws s (s.takeFrame k r) := by
  unfold State.takeFrame
  split
  · exact keeps_takeRequest ..
  · exact keeps_taking _ _ _ (fun ev => .immediateAt ..)

theorem keeps_reach (s : State) (t : Nat) : KeepsLaws s (s.reach t) := .of_slots rfl rfl rfl

/-- An event of a running part that raises no immediate reply. -/
theorem keeps_event {ev : Ev} (h : Kept .plant 0 (Ev.of s) ev) (hp : s.phase = .running) : KeepsLaws s ev.commit :=
  h.commit hp (.inr rfl)

/-- The command leaves a next state that keeps the laws. -/
abbrev Keeps (s : State) (o : Host.Outcome State Fault Refusal) : Prop := ∃ t, o = .next t ∧ KeepsLaws s t

theorem keeps_whenRunning {f : Ev → Ev} (hf : Kept .plant 0 (Ev.of s) (f (Ev.of s))) : Keeps s (whenRunning s f) := by
  unfold whenRunning
  split
  · next hp => exact ⟨_, rfl, keeps_event hf hp⟩
  · exact ⟨s, rfl, .refl s⟩

theorem keeps_expire {t : Timer} {f : Ev → Ev} (hf : ∀ ev, Kept .plant 0 ev (f ev)) : Keeps s (s.expire t f) := by
  unfold State.expire
  split
  · exact ⟨s, rfl, .refl s⟩
  · obtain ⟨u, hu, hkeeps⟩ := keeps_whenRunning (s := s.reach _) (hf _)
    exact ⟨u, hu, (keeps_reach s _).trans hkeeps⟩

/-! ### Power (R182, R183) -/

theorem power_laws {t : State} (hports : ∀ q, (t.ports.get q).tx = [] ∧ (t.ports.get q).notices = [])
    (hcrusher : ∀ j, (t.slots.get j).crusher.queue = [] ∧ (t.slots.get j).crusher.w ≤ (t.slots.get j).cp.wearMax
      ∧ (t.slots.get j).crusher.wAtMove ≤ (t.slots.get j).crusher.w)
    (hrest : ∀ j, AtRest (t.slots.get j).crusher ∧ (t.slots.get j).crusher.move = none ∧ (t.slots.get j).crusher.cal = none
      ∧ (t.slots.get j).crusher.episode = none ∧ ((t.slots.get j).kind = .jaw → (t.slots.get j).relief.timer = none)) (s : State) :
    KeepsLaws s t where
  port _ q := by rw [(hports q).1, (hports q).2]; exact ⟨Nat.zero_le _, Nat.zero_le _⟩
  queue _ j := by rw [(hcrusher j).1]; exact QueueOk.nil
  wear _ j := (hcrusher j).2
  motion _ j := by
    obtain ⟨hm, hmove, hcal, hepisode, hstill⟩ := hrest j
    have hfits : Fits (t.slots.get j) (t.slots.get j).crusher := by
      have hrests : Rests (t.slots.get j) (t.slots.get j).crusher := ⟨hmove, hcal, hepisode, hstill⟩
      rcases hm with hm | ⟨b, hm⟩
      · exact hrests.idle hm
      · exact hrests.blocked hm (hcrusher j).1
    exact fun _ => ⟨hfits.coherent, hfits.home, hfits.drains, hfits.jaw, hfits.locked, fun _ => hm⟩

/-- A crusher after power-on is at rest, whatever its records held (R7, R9). -/
theorem crusherOf_rests (v : Nonvolatile) (i : SlotId) : AtRest (v.crusherOf i) ∧ (v.crusherOf i).move = none ∧ (v.crusherOf i).cal = none
    ∧ (v.crusherOf i).episode = none ∧ (v.crusherOf i).queue = [] := by
  unfold Nonvolatile.crusherOf
  dsimp only
  split <;> split <;> split <;> simp [AtRest, Crusher.fresh]

theorem keeps_powerOn (scan : InputScan) (s : State) : Keeps s (execPowerOn scan s) := by
  refine ⟨_, rfl, power_laws (fun q => ?_) (fun j => ?_) (fun j => ?_) s⟩
  · cases q <;> exact ⟨rfl, rfl⟩
  · simp only [Nonvolatile.powerOn, PerSlot.get_of, Nonvolatile.slotOf]
    split
    · obtain ⟨hw, hat⟩ := s.tornStore.crusherOf_wear j
      refine ⟨(crusherOf_rests ..).2.2.2.2, ?_, ?_⟩
      · rw [hw]; split
        · exact Nat.min_le_right ..
        · exact Nat.zero_le _
      · rw [hat]; split
        · exact Nat.min_le_right ..
        · exact Nat.zero_le _
    · exact ⟨rfl, Nat.zero_le _, Nat.le_refl _⟩
  · simp only [Nonvolatile.powerOn, PerSlot.get_of, Nonvolatile.slotOf]
    split
    · obtain ⟨hm, hmove, hcal, hepisode, -⟩ := crusherOf_rests s.tornStore j
      exact ⟨hm, hmove, hcal, hepisode, fun _ => rfl⟩
    · exact ⟨.inl rfl, rfl, rfl, rfl, fun _ => rfl⟩

theorem keeps_powerLoss (s : State) : Keeps s (execPowerLoss s) := by
  unfold execPowerLoss
  split
  · exact ⟨s, rfl, .refl s⟩
  · refine ⟨_, rfl, power_laws (fun q => ?_) (fun j => ?_) (fun j => ?_) s⟩
    · cases q <;> exact ⟨rfl, rfl⟩
    · simp only [State.reset, PerSlot.get_all]; exact ⟨rfl, Nat.zero_le _, Nat.le_refl _⟩
    · simp only [State.reset, PerSlot.get_all]; exact ⟨.inl rfl, rfl, rfl, rfl, fun _ => rfl⟩

/-- Start-up has ended: the law asks no less of a part past it (R61, R183). -/
theorem keeps_startUpEnd (s : State) : Keeps s (execStartUpEnd s) := by
  unfold execStartUpEnd
  split
  · next hp =>
    have hacted : ∀ ev : Ev, Kept .plant 0 ev ev.actOnScan := fun ev => by
      have hlocks : Kept .plant 0 ev (ev.each slotIds (fun ev f => if ev.s.lockedOut f then ev.raise f .lockout else ev)) :=
        .each (fun ev f => .ite (kept_raise ..) (.refl _ ev)) ..
      have hreliefs := hlocks.before (.each (f := fun ev i => if (ev.slot i).kind = .cone ∧ (ev.slot i).relief.state then ev.reliefStart i else ev)
        (fun ev i => by
          split
          · next hcone =>
            exact .of_tended (Tended.refl i ev).reliefStart (lawful_reliefStart · (by rw [hcone.1]; decide))
          · exact .refl _ ev) slotIds _)
      unfold Ev.actOnScan
      exact .ite (hreliefs.before (kept_recordBinInvalid _)) hreliefs
    refine ⟨_, rfl, KeepsLaws.trans (t := State.resetHolders { s with phase := .running }) ?_ (keeps_event (hacted _) rfl)⟩
    have hslot : ∀ j, Akin (s.slots.get j) ((State.resetHolders { s with phase := .running }).slots.get j) := fun j => by
      simp only [State.resetHolders, PerSlot.get_of]
      exact ⟨rfl, rfl, rfl, rfl, rfl⟩
    refine ⟨id, fun hl j => ?_, fun hl j => ?_, fun hl j => ?_⟩
    · rw [(hslot j).crusher]; exact hl j
    · obtain ⟨hcrusher, hkind, -, hlockout, hrelief⟩ := hslot j
      dsimp only
      rw [hcrusher, hkind, hlockout, hrelief]
      intro hk
      obtain ⟨hcoherent, hhome, hdrains, hjaw, hlocked, -⟩ := hl j hk
      exact ⟨hcoherent, hhome, hdrains, hjaw, hlocked, fun h => absurd rfl h⟩
    · obtain ⟨hcrusher, -, hcp, -, -⟩ := hslot j
      dsimp only
      rw [hcrusher, hcp]
      exact hl j
  · exact ⟨s, rfl, .refl s⟩

end

end Sys2Proof.Proofs
end


section
/-! PROOF. What every step keeps: the channels, the inputs, the timers and the link (O3, O5). -/

namespace Sys2Proof.Proofs

open Sys2Proof Sys2Proof.Machine

set_option Elab.async false

section
variable {s : State} {i : SlotId}

/-! ### Inputs (R161 to R166) -/

/-- The event of an input of a crusher slot whose record the event has just read: the work at the slot meets the law as it stood. -/
theorem keeps_input {s s' : State} {ev : Ev} (hp : s.phase = .running) (hphase : s'.phase = s.phase) (hports : s'.ports = s.ports)
    (hother : ∀ j, j ≠ i → s'.slots.get j = s.slots.get j) (hcrusher : (s'.slots.get i).crusher = (s.slots.get i).crusher)
    (hkind : (s'.slots.get i).kind = (s.slots.get i).kind) (hcp : (s'.slots.get i).cp = (s.slots.get i).cp)
    (ht : Tended i (Ev.of s') ev)
    (hl : (s.slots.get i).kind.isCrusher = true → Fits (s.slots.get i) (s.slots.get i).crusher → Lawful i ev) :
    KeepsLaws s ev.commit := by
  have hcrushers : ∀ j, (s'.slots.get j).crusher = (s.slots.get j).crusher := fun j => by
    by_cases hj : j = i
    · subst hj; exact hcrusher
    · rw [hother j hj]
  have hrun : ev.s.phase = .running := ht.phase.trans (hphase.trans hp)
  refine ⟨commit_portLaw (p := .plant) (k := 0) hrun (fun q => ?_) (fun q => ?_) (.inr rfl), fun hq j => ?_, fun hm => ?_, fun hw j => ?_⟩
  · rw [ht.ports, Ev.of_s, hports]; exact ⟨Nat.le_refl _, Nat.le_refl _⟩
  · exact (answers_of_finals ht.finals q _).trans_eq (Nat.zero_add _)
  · rw [Ev.commit_slots]
    refine ht.queue j ?_
    rw [crusher_of, hcrushers]
    exact hq j
  · rw [motionLaw_iff hp] at hm
    rw [motionLaw_iff (by rw [Ev.commit_phase]; exact hrun), Ev.commit_slots]
    intro j hk
    change (ev.slot j).kind.isCrusher = true at hk
    rw [ht.kind] at hk
    by_cases hj : j = i
    · subst hj
      rw [slot_of, hkind] at hk
      exact hl hk (hm j hk)
    · show Fits (ev.slot j) (ev.crusher j)
      rw [slot_of, hother j hj] at hk
      rw [(ht.aside j hj).1, crusher_of, hcrushers]
      refine (hm j hk).congr ?_ ?_ ?_
      · rw [ht.kind, slot_of, hother j hj]
      · rw [ht.lockout, slot_of, hother j hj]
      · rw [ht.relief, slot_of, hother j hj]
  · rw [Ev.commit_slots]
    refine ht.wear j ?_
    unfold WearOk
    by_cases hj : j = i
    · subst hj; rw [slot_of, hcrusher, hcp]; exact hw j
    · rw [slot_of, hother j hj]; exact hw j

/-- A slot changes in what the laws do not read. -/
theorem keeps_modSlot (s : State) (i : SlotId) (f : Slot → Slot) (hf : Akin (s.slots.get i) (f (s.slots.get i))) :
    KeepsLaws s (s.modSlot i f) := by
  refine .of_akin rfl (fun _ => ⟨Nat.le_refl _, Nat.le_refl _⟩) (fun j => ?_)
  by_cases hj : j = i
  · subst hj; rw [State.modSlot_slot_self]; exact hf
  · rw [State.modSlot_slot_ne _ _ hj]; exact .refl _

theorem keeps_setAnalog (s : State) (k : AnalogInput) (a : Analog) : KeepsLaws s (s.setAnalog k a) := by
  cases k with
  | level i => exact keeps_modSlot s i (fun x => { x with level := a }) ⟨rfl, rfl, rfl, rfl, rfl⟩
  | power i => exact keeps_modSlot s i (fun x => { x with power := a }) ⟨rfl, rfl, rfl, rfl, rfl⟩
  | bin => exact .of_slots rfl rfl rfl

@[simp] theorem setAnalog_phase (s : State) (k : AnalogInput) (a : Analog) : (s.setAnalog k a).phase = s.phase := by cases k <;> rfl

@[simp] theorem reachSample_phase (s : State) (t : Option Nat) (n : Nat) : (s.reachSample t n).phase = s.phase := by cases t <;> rfl

@[simp] theorem reachSample_slots (s : State) (t : Option Nat) (n : Nat) : (s.reachSample t n).slots = s.slots := by cases t <;> rfl

theorem keeps_reachSample (s : State) (t : Option Nat) (n : Nat) : KeepsLaws s (s.reachSample t n) := by
  cases t with
  | none => exact .refl s
  | some t => exact keeps_reach ..

theorem keeps_analogSample (k : AnalogInput) (raw : BitVec 12) (s : State) : Keeps s (execAnalogSample k raw s) := by
  unfold execAnalogSample
  split
  · dsimp only
    split
    · next hp =>
      refine ⟨_, rfl, (keeps_reachSample s _ _).trans ((keeps_setAnalog _ k _).trans (keeps_event (kept_analogEvent ..) ?_))⟩
      simpa using hp
    · exact ⟨s, rfl, .refl s⟩
  · exact ⟨s, rfl, .refl s⟩

theorem keeps_positionSample (i : SlotId) (a : PositionAnswer) (s : State) : Keeps s (execPositionSample i a s) := by
  unfold execPositionSample
  dsimp only
  split
  · next hp =>
    refine ⟨_, rfl, (keeps_reachSample s _ _).trans ((keeps_modSlot _ i _ ?_).trans
      (keeps_event (.of_tended ((Tended.refl i _).positionEvent _) (lawful_positionEvent · _)) ?_))⟩
    · exact ⟨rfl, rfl, rfl, rfl, rfl⟩
    · simpa using hp.1
  · exact ⟨s, rfl, .refl s⟩

theorem keeps_tonnageEdge (i : SlotId) (s : State) : Keeps s (execTonnageEdge i s) := by
  unfold execTonnageEdge
  dsimp only
  split
  · exact keeps_whenRunning (Kept.before (.modSlot _ _ _ ⟨rfl, rfl, rfl, rfl, rfl⟩) (.of_tended (Tended.refl i _).tonnagePulse lawful_tonnagePulse))
  · exact ⟨s, rfl, .refl s⟩

/-- A discrete input changes; its debounced state stands, and a jaw's relief switch stays without a timer (R165). -/
theorem keeps_setDiscrete (s : State) (k : DiscreteInput) (d : Discrete) (hstate : d.state = (s.discrete k).state)
    (htimer : ∀ i, k = .relief i → (s.slots.get i).kind = .jaw → (s.slots.get i).relief.timer = none → d.timer = none) :
    KeepsLaws s (s.setDiscrete k d) := by
  have hslot : ∀ (i : SlotId) (f : Slot → Slot), (∀ x, (f x).crusher = x.crusher ∧ (f x).kind = x.kind ∧ (f x).cp = x.cp) →
      (f (s.slots.get i)).lockout.state = (s.slots.get i).lockout.state →
      ((s.slots.get i).kind = .jaw → (s.slots.get i).relief.timer = none → (f (s.slots.get i)).relief.timer = none) →
      KeepsLaws s (s.modSlot i f) := by
    intro i f hf hlock hrelief
    refine ⟨id, fun hq j => ?_, fun hm j => ?_, fun hw j => ?_⟩
    all_goals by_cases hj : j = i
    · subst hj; rw [State.modSlot_slot_self, (hf _).1]; exact hq j
    · rw [State.modSlot_slot_ne _ _ hj]; exact hq j
    · subst hj
      obtain ⟨hcrusher, hkind, -⟩ := hf (s.slots.get j)
      dsimp only
      rw [State.modSlot_slot_self, hcrusher, hkind, hlock]
      intro hk
      obtain ⟨hcoherent, hhome, hdrains, hjaw, hlocked, hearly⟩ := hm j hk
      exact ⟨hcoherent, hhome, hdrains, fun hk => ⟨(hjaw hk).1, hrelief hk (hjaw hk).2⟩, hlocked, hearly⟩
    · dsimp only; rw [State.modSlot_slot_ne _ _ hj]; exact hm j
    · subst hj
      obtain ⟨hcrusher, -, hcp⟩ := hf (s.slots.get j)
      dsimp only
      rw [State.modSlot_slot_self, hcrusher, hcp]
      exact hw j
    · dsimp only; rw [State.modSlot_slot_ne _ _ hj]; exact hw j
  cases k with
  | relief i => exact hslot i (fun x => { x with relief := d }) (fun _ => ⟨rfl, rfl, rfl⟩) rfl (htimer i rfl)
  | lockout i => exact hslot i (fun x => { x with lockout := d }) (fun _ => ⟨rfl, rfl, rfl⟩) hstate (fun _ h => h)
  | running i => exact hslot i (fun x => { x with running := d }) (fun _ => ⟨rfl, rfl, rfl⟩) rfl (fun _ h => h)
  | lineStop => exact .of_slots rfl rfl rfl
  | selectorA => exact .of_slots rfl rfl rfl
  | selectorB => exact .of_slots rfl rfl rfl

theorem keeps_discreteInputChange (k : DiscreteInput) (closed : Bool) (s : State) : Keeps s (execDiscreteInputChange k closed s) := by
  unfold execDiscreteInputChange
  split
  · exact ⟨s, rfl, .refl s⟩
  · refine ⟨_, rfl, keeps_setDiscrete _ _ _ ?_ (fun i hk hjaw htimer => ?_)⟩
    · unfold Discrete.change; split <;> rfl
    · subst hk
      have huse : s.discreteInUse (.relief i) = false := by simp [State.discreteInUse, hjaw]
      unfold Discrete.change
      split
      · exact htimer
      · simp [huse]

/-- A relief start or end at a debounced switch, which no jaw has (R62, R165). -/
theorem keeps_reliefInput {d : Discrete} (hp : s.phase = .running) (htimer : (s.slots.get i).relief.timer ≠ none)
    {f : Ev → SlotId → Ev} (ht : ∀ ev, Tended i ev (f ev i)) (hf : ∀ ev, Lawful i ev → (ev.slot i).kind ≠ .jaw → Lawful i (f ev i)) :
    KeepsLaws s (f (Ev.of (s.setDiscrete (.relief i) d)) i).commit := by
  refine keeps_input (s' := s.setDiscrete (.relief i) d) (i := i) hp rfl rfl (fun j hj => by simp [State.setDiscrete, hj]) ?_ ?_ ?_ (ht _) (fun _ hfits => ?_)
  all_goals simp only [State.setDiscrete, State.modSlot_slot_self]
  have hkind : (s.slots.get i).kind ≠ .jaw := fun hk => htimer (hfits.jaw hk).2
  refine hf _ ?_ (by rw [slot_of]; simpa [State.modSlot_slot_self] using hkind)
  unfold Lawful
  rw [crusher_of, slot_of, State.modSlot_slot_self]
  obtain ⟨hcoherent, hhome, hdrains, hjaw, hlocked⟩ := hfits
  exact ⟨hcoherent, hhome, hdrains, fun hk => absurd hk hkind, hlocked⟩

/-- A lockout input takes a new state: a crusher's work ends or may go on (R54, R74), a feeder stops (R106). -/
theorem keeps_lockoutInput (d : Discrete) (hp : s.phase = .running) :
    KeepsLaws s ((Ev.of (s.setDiscrete (.lockout i) d)).discreteEvent (.lockout i) d.state).commit := by
  have hslot : (s.setDiscrete (.lockout i) d).slots.get i = { s.slots.get i with lockout := d } := by simp [State.setDiscrete]
  by_cases hk : (s.slots.get i).kind.isCrusher = true
  · have hends : ∀ {f : Ev → SlotId → Ev}, Tended i (Ev.of (s.setDiscrete (.lockout i) d)) (f (Ev.of (s.setDiscrete (.lockout i) d)) i) →
        (Fits (s.slots.get i) (s.slots.get i).crusher → Lawful i (f (Ev.of (s.setDiscrete (.lockout i) d)) i)) →
        KeepsLaws s (f (Ev.of (s.setDiscrete (.lockout i) d)) i).commit := fun ht hf => by
      refine keeps_input (s' := s.setDiscrete (.lockout i) d) (i := i) hp rfl rfl (fun j hj => by simp [State.setDiscrete, hj]) ?_ ?_ ?_ ht
        (fun _ => hf)
      all_goals rw [hslot]
    cases hd : d.state with
    | true =>
      have hshown : (Ev.of (s.setDiscrete (.lockout i) d)).discreteEvent (.lockout i) true =
          (Ev.of (s.setDiscrete (.lockout i) d)).crusherLockout i := by
        simp only [Ev.discreteEvent, Ev.lockoutAsserted, slot_of, hslot]
        cases hkind : (s.slots.get i).kind <;> simp [hkind, Kind.isCrusher] at hk ⊢
      rw [hshown]
      refine hends (f := Ev.crusherLockout) (Tended.refl i _).crusherLockout (fun h => lawful_crusherLockout (x := s.slots.get i) ?_ ?_ ?_)
      · rw [crusher_of, hslot]; exact h
      · rw [slot_of, hslot]
      · rw [slot_of, hslot]
    | false =>
      have hshown : (Ev.of (s.setDiscrete (.lockout i) d)).discreteEvent (.lockout i) false =
          (Ev.of (s.setDiscrete (.lockout i) d)).crusherUnlock i := by
        simp only [Ev.discreteEvent, Ev.lockoutReleased, slot_of, hslot, hk, if_true]
      rw [hshown]
      refine hends (f := Ev.crusherUnlock) (Tended.refl i _).crusherUnlock (fun h => lawful_crusherUnlock ?_)
      unfold Lawful
      rw [crusher_of, slot_of, hslot]
      obtain ⟨hcoherent, hhome, hdrains, hjaw, -⟩ := h
      exact ⟨hcoherent, hhome, hdrains, hjaw, by simp [hd]⟩
  · have hset : KeepsLaws s (s.setDiscrete (.lockout i) d) := by
      refine ⟨id, fun hq j => ?_, fun hm j => ?_, fun hw j => ?_⟩
      all_goals by_cases hj : j = i
      · subst hj; rw [hslot]; exact hq j
      · simpa [State.setDiscrete, hj] using hq j
      · subst hj; dsimp only; rw [hslot]; exact fun h => absurd h hk
      · simpa [State.setDiscrete, hj] using hm j
      · subst hj; dsimp only; rw [hslot]; exact hw j
      · simpa [State.setDiscrete, hj] using hw j
    refine hset.trans (keeps_event ?_ hp)
    cases d.state with
    | true =>
      simp only [Ev.discreteEvent, Ev.lockoutAsserted, slot_of, hslot]
      cases hkind : (s.slots.get i).kind with
      | jaw => rw [hkind] at hk; exact absurd rfl hk
      | cone => rw [hkind] at hk; exact absurd rfl hk
      | feeder => exact .ite (.refl _ _) (kept_enterRun ..)
      | unused => exact .refl _ _
    | false =>
      simp only [Ev.discreteEvent, Ev.lockoutReleased, slot_of, hslot, hk]
      exact .refl _ _

/-- Inputs of which the laws say nothing: the running feedback, the line stop and the selectors. -/
theorem keeps_lineInput {k : DiscreteInput} (d : Discrete) (b : Bool) (hp : s.phase = .running)
    (hk : (∀ i, k ≠ .relief i) ∧ ∀ i, k ≠ .lockout i) : KeepsLaws s ((Ev.of (s.setDiscrete k d)).discreteEvent k b).commit := by
  have hset : KeepsLaws s (s.setDiscrete k d) := by
    cases k with
    | relief i => exact absurd rfl (hk.1 i)
    | lockout i => exact absurd rfl (hk.2 i)
    | running i => exact keeps_modSlot s i (fun x => { x with running := d }) ⟨rfl, rfl, rfl, rfl, rfl⟩
    | lineStop => exact .of_slots rfl rfl rfl
    | selectorA => exact .of_slots rfl rfl rfl
    | selectorB => exact .of_slots rfl rfl rfl
  have hphase : (s.setDiscrete k d).phase = .running := by cases k <;> exact hp
  refine hset.trans (keeps_event ?_ hphase)
  unfold Ev.discreteEvent
  split
  · exact absurd rfl (hk.1 _)
  · exact absurd rfl (hk.1 _)
  · exact absurd rfl (hk.2 _)
  · exact absurd rfl (hk.2 _)
  · exact .refl _ _
  · exact kept_feedbackLost ..
  · exact kept_lineStopAsserted _
  · exact kept_lineStopReleased _
  · exact kept_selectorToLocal ..
  · exact kept_selectorToRemote ..
  · exact kept_selectorToLocal ..
  · exact kept_selectorToRemote ..

theorem keeps_debounceExpiry (k : DiscreteInput) (s : State) : Keeps s (execDebounceExpiry k s) := by
  unfold execDebounceExpiry
  dsimp only
  split
  · exact ⟨s, rfl, .refl s⟩
  · next t ht =>
    have hdiscrete : (s.reach t).discrete k = s.discrete k := by cases k <;> rfl
    split
    · exact ⟨_, rfl, keeps_reach ..⟩
    · next hp =>
      have hp : s.phase = .running := by simpa using hp
      split
      · refine ⟨_, rfl, (keeps_reach s t).trans ?_⟩
        cases k with
        | relief i =>
          have htimer : ((s.reach t).slots.get i).relief.timer ≠ none := by
            rw [State.reach_slots, show (s.slots.get i).relief.timer = some t from ht]; simp
          cases hraw : (s.discrete (.relief i)).raw with
          | true =>
            exact keeps_reliefInput (s := s.reach t) (f := Ev.reliefStart) hp htimer (fun ev => (Tended.refl i ev).reliefStart)
              (fun _ h hk => lawful_reliefStart h hk)
          | false =>
            exact keeps_reliefInput (s := s.reach t) (f := Ev.reliefEnd) hp htimer (fun ev => (Tended.refl i ev).reliefEnd)
              (fun _ h _ => lawful_reliefEnd h)
        | lockout i => exact keeps_lockoutInput _ hp
        | running i => exact keeps_lineInput _ _ hp ⟨by simp, by simp⟩
        | lineStop => exact keeps_lineInput _ _ hp ⟨by simp, by simp⟩
        | selectorA => exact keeps_lineInput _ _ hp ⟨by simp, by simp⟩
        | selectorB => exact keeps_lineInput _ _ hp ⟨by simp, by simp⟩
      · next hsame =>
        refine ⟨_, rfl, (keeps_reach s t).trans (keeps_setDiscrete _ _ _ ?_ (fun _ _ _ _ => rfl))⟩
        rw [hdiscrete]
        exact not_not.1 hsame

/-! ### Timers and the store -/

theorem keeps_restartDelay (i : SlotId) (s : State) : Keeps s (execRestartDelayExpiry i s) := by
  refine keeps_expire (fun ev => ?_)
  refine .of_tended (((Tended.refl i ev).modCrusher _).lowerLinked _) (fun h => ?_)
  exact lawful_alike (lawful_modCrusher h (fun c => { c with restart := none }) ⟨rfl, rfl, rfl, rfl, id⟩) ((Tended.refl i _).lowerLinked _)
    (.of_eq (crusher_lowerLinked ..))

theorem keeps_recoveryTimer (i : SlotId) (s : State) : Keeps s (execRecoveryTimerExpiry i s) := by
  unfold execRecoveryTimerExpiry
  dsimp only
  split
  · next hm =>
    unfold State.expire
    split
    · exact ⟨s, rfl, .refl s⟩
    · obtain ⟨u, hu, hkeeps⟩ := keeps_whenRunning (s := s.reach _) (f := (·.failRecovery i))
        (.of_tended (Tended.refl i _).failRecovery (lawful_failRecovery · (by rw [crusher_of, State.reach_slots]; exact hm)))
      exact ⟨u, hu, (keeps_reach s _).trans hkeeps⟩
  · exact ⟨s, rfl, .refl s⟩

theorem keeps_travelExpiry (i : SlotId) (s : State) : Keeps s (execTravelExpiry i s) := by
  unfold execTravelExpiry
  dsimp only
  split
  · exact ⟨s, rfl, .refl s⟩
  · exact keeps_expire (fun ev => .of_tended (Tended.refl i ev).travelOut lawful_travelOut)

theorem keeps_changeTimer (s : State) : Keeps s (execChangeTimerExpiry s) := by
  unfold execChangeTimerExpiry
  split
  · exact ⟨s, rfl, .refl s⟩
  · next c _ =>
    obtain ⟨u, hu, hkeeps⟩ := keeps_whenRunning (s := s.reach c.timer) (f := (·.endChange .timeout)) (kept_endChange ..)
    exact ⟨u, hu, (keeps_reach s _).trans hkeeps⟩

theorem keeps_dwellExpiry (i : SlotId) (s : State) : Keeps s (execDwellExpiry i s) := by
  unfold execDwellExpiry
  split
  · exact ⟨s, rfl, .refl s⟩
  · next t _ =>
    obtain ⟨u, hu, hkeeps⟩ := keeps_whenRunning (s := s.reach t)
      (f := fun ev => (ev.modSlot i (fun x => { x with driver := { x.driver with dwell := none } })).retestDrive i)
      (Kept.before (.modSlot _ _ _ ⟨rfl, rfl, rfl, rfl, rfl⟩) (.of_tended (Tended.refl i _).retestDrive
        (lawful_alike · (Tended.refl i _).retestDrive (.of_eq (crusher_retestDrive ..)))))
    exact ⟨u, hu, (keeps_reach s _).trans hkeeps⟩

theorem keeps_storeWriteStart (s : State) : Keeps s (execStoreWriteStart s) := by
  unfold execStoreWriteStart
  split
  · split
    · exact ⟨_, rfl, .of_slots rfl rfl rfl⟩
    · exact ⟨s, rfl, .refl s⟩
  · exact ⟨s, rfl, .refl s⟩

theorem keeps_storeWriteComplete (matched : Bool) (s : State) : Keeps s (execStoreWriteComplete matched s) := by
  unfold execStoreWriteComplete
  split
  · exact ⟨s, rfl, .refl s⟩
  · exact keeps_whenRunning (kept_writeDone ..)

/-! ### The link (R171, R176) -/

theorem keeps_characterReceived (p : Port) (c : RxChar) (s : State) : Keeps s (execCharacterReceived p c s) := by
  refine ⟨_, rfl, ?_⟩
  have hasm : ∀ a, KeepsLaws s (s.setAsm p a) := fun a => keeps_modPort _ _ _ ⟨Nat.le_refl _, Nat.le_refl _⟩
  split
  · unfold State.receive
    dsimp only
    split
    · exact hasm _
    · split
      · exact (hasm _).trans (keeps_takeFrame ..)
      · exact hasm _
  · exact .refl s

theorem keeps_interCharacterGap (p : Port) (s : State) : Keeps s (execInterCharacterGap p s) := by
  unfold execInterCharacterGap
  split
  · exact ⟨s, rfl, .refl s⟩
  · refine ⟨_, rfl, ?_⟩
    split
    · exact (keeps_reach s _).trans (keeps_modPort _ _ _ ⟨Nat.le_refl _, Nat.le_refl _⟩)
    · exact .refl s

/-- A frame that leaves for the transmitter leaves its queue (R176). -/
theorem takeNext_length (q : PortState) : q.takeNext.tx.length ≤ q.tx.length ∧ q.takeNext.notices.length ≤ q.notices.length := by
  have hreply : q.sendReply.tx.length ≤ q.tx.length ∧ q.sendReply.notices.length ≤ q.notices.length := by
    unfold PortState.sendReply
    split
    · exact ⟨Nat.le_refl _, Nat.le_refl _⟩
    · next h => rw [h]; exact ⟨by simp, Nat.le_refl _⟩
  have hnotice : q.sendNotice.tx.length ≤ q.tx.length ∧ q.sendNotice.notices.length ≤ q.notices.length := by
    unfold PortState.sendNotice
    split
    · exact ⟨Nat.le_refl _, Nat.le_refl _⟩
    · next h => rw [h]; exact ⟨Nat.le_refl _, by simp⟩
  unfold PortState.takeNext
  split
  · exact ⟨Nat.le_refl _, Nat.le_refl _⟩
  · split
    · exact hnotice
    · exact hreply

theorem keeps_transmitTake (p : Port) (s : State) : Keeps s (execTransmitTake p s) := by
  refine ⟨_, rfl, ?_⟩
  split
  · exact keeps_modPort _ _ _ (takeNext_length _)
  · exact .refl s

theorem keeps_frameTransmitted (p : Port) (s : State) : Keeps s (execFrameTransmitted p s) := by
  refine ⟨_, rfl, ?_⟩
  split
  · exact keeps_modPort _ _ _ ⟨Nat.le_refl _, Nat.le_refl _⟩
  · exact .refl s

/-! ### Every step -/

theorem keeps_command (c : ReqCode) (r : Request) (s : State) : Keeps s (exec (c.command r) s) :=
  ⟨_, exec_command c r s, keeps_takeRequest s c r⟩

theorem keeps_exec (c : Instr) (s : State) : Keeps s (exec c s) := by
  cases c with
  | powerOn scan => exact keeps_powerOn scan s
  | startUpEnd => exact keeps_startUpEnd s
  | echo r => exact keeps_command .echo r s
  | readSlot r => exact keeps_command .readSlot r s
  | readQueue r => exact keeps_command .readQueue r s
  | readLine r => exact keeps_command .readLine r s
  | readReliefs r => exact keeps_command .readReliefs r s
  | readRecipe r => exact keeps_command .readRecipe r s
  | readNote r => exact keeps_command .readNote r s
  | take r => exact keeps_command .take r s
  | release r => exact keeps_command .release r s
  | hand r => exact keeps_command .hand r s
  | postNote r => exact keeps_command .postNote r s
  | setHold r => exact keeps_command .setHold r s
  | setGap r => exact keeps_command .setGap r s
  | stepGap r => exact keeps_command .stepGap r s
  | recallGap r => exact keeps_command .recallGap r s
  | suspend r => exact keeps_command .suspend r s
  | resume r => exact keeps_command .resume r s
  | go r => exact keeps_command .go r s
  | flush r => exact keeps_command .flush r s
  | calibrate r => exact keeps_command .calibrate r s
  | clearBlock r => exact keeps_command .clearBlock r s
  | setRate r => exact keeps_command .setRate r s
  | startFeed r => exact keeps_command .startFeed r s
  | stopFeed r => exact keeps_command .stopFeed r s
  | startLine r => exact keeps_command .startLine r s
  | applyRecipe r => exact keeps_command .applyRecipe r s
  | abortChange r => exact keeps_command .abortChange r s
  | saveRecipe r => exact keeps_command .saveRecipe r s
  | writeParams r => exact keeps_command .writeParams r s
  | lockParams r => exact keeps_command .lockParams r s
  | setMask r => exact keeps_command .setMask r s
  | clearMask r => exact keeps_command .clearMask r s
  | clearConditions r => exact keeps_command .clearConditions r s
  | subscribe r => exact keeps_command .subscribe r s
  | lineReset r => exact keeps_command .lineReset r s
  | badKindRequest kind r => exact ⟨_, rfl, keeps_takeFrame ..⟩
  | characterReceived p c => exact keeps_characterReceived p c s
  | interCharacterGap p => exact keeps_interCharacterGap p s
  | transmitTake p => exact keeps_transmitTake p s
  | frameTransmitted p => exact keeps_frameTransmitted p s
  | analogSample k raw => exact keeps_analogSample k raw s
  | positionSample i a => exact keeps_positionSample i a s
  | tonnageEdge i => exact keeps_tonnageEdge i s
  | discreteInputChange k closed => exact keeps_discreteInputChange k closed s
  | debounceExpiry k => exact keeps_debounceExpiry k s
  | travelExpiry i => exact keeps_travelExpiry i s
  | settleExpiry i => exact keeps_expire (fun ev => .of_tended (Tended.refl i ev).settleOut lawful_settleOut)
  | suspensionExpiry i => exact keeps_expire (fun ev => .of_tended (Tended.refl i ev).suspensionOut lawful_suspensionOut)
  | drainLimitExpiry i => exact keeps_expire (fun ev => .of_tended (Tended.refl i ev).drainLimitOut lawful_drainLimitOut)
  | fixedDrainExpiry i => exact keeps_expire (fun ev => .of_tended (Tended.refl i ev).fixedDrainOut lawful_fixedDrainOut)
  | recoveryTimerExpiry i => exact keeps_recoveryTimer i s
  | restartDelayExpiry i => exact keeps_restartDelay i s
  | regulationPeriod i => exact keeps_expire (fun ev => kept_regulationPeriod ev i)
  | runConfirmExpiry i => exact keeps_expire (fun ev => kept_confirmOut ev i)
  | changeTimerExpiry => exact keeps_changeTimer s
  | dwellExpiry i => exact keeps_dwellExpiry i s
  | storeWriteStart => exact keeps_storeWriteStart s
  | storeWriteComplete matched => exact keeps_storeWriteComplete matched s
  | powerLoss => exact keeps_powerLoss s

theorem keeps_step {t : State} (h : step s = .next t) : KeepsLaws s t := by
  unfold step at h
  split at h
  · cases h
    unfold State.idle
    split
    · exact .refl s
    · exact .of_slots rfl rfl rfl
  · next c rest hpending =>
    obtain ⟨u, hu, hkeeps⟩ := keeps_exec c { s with pending := rest }
    rw [h] at hu
    cases hu
    exact KeepsLaws.trans (t := { s with pending := rest }) (.of_slots rfl rfl rfl) hkeeps

end

/-- Settles O3: every event keeps the queues' order and bounds and raises at most the one immediate reply that its port has a place for. -/
theorem queueBoundsAreKept : Obligations.QueueBoundsAreKept := fun _ _ h => ⟨(keeps_step h).port, (keeps_step h).queue⟩

/-- Settles O5: each operation of the motion cycle, the calibrations and the relief episodes ends in a state that fits its records. -/
theorem motionLawIsKept : Obligations.MotionLawIsKept := fun _ _ h => ⟨(keeps_step h).motion, (keeps_step h).wear⟩

end Sys2Proof.Proofs
end


section
/-! PROOF. The order of the move queue and of the recall stack (R36, R37, R57). -/

namespace Sys2Proof.Proofs

open Sys2Proof Sys2Proof.Machine

set_option Elab.async false

theorem insertEntry_between {a b : List Entry} (ha : ∀ x ∈ a, x.priority = true) (hb : ∀ x ∈ b, x.priority = false)
    (e : Entry) : insertEntry (a ++ b) e = if e.priority = true then a ++ e :: b else a ++ b ++ [e] := by
  have hkept : b.takeWhile (·.priority) = [] := by
    cases b with
    | nil => rfl
    | cons y b => simp [hb y (List.mem_cons_self ..)]
  have hleft : b.dropWhile (·.priority) = b := by
    cases b with
    | nil => rfl
    | cons y b => simp [hb y (List.mem_cons_self ..)]
  unfold insertEntry
  rw [List.takeWhile_append_of_pos ha, List.dropWhile_append_of_pos ha, hkept, hleft]
  simp

/-! The recall stack: its places, newest first. -/

/-- The six places of a recall stack, newest first. -/
def placesOf (k : RecallStack) : List (Option RecallEntry) :=
  [k.top, k.top - 1, k.top - 2, k.top - 3, k.top - 4, k.top - 5].map k.place

theorem newestFirst_eq (k : RecallStack) : k.newestFirst = (placesOf k).reduceOption := by
  unfold RecallStack.newestFirst placesOf List.reduceOption
  rw [List.filterMap_map, Function.id_comp]

theorem top_cases {P : Fin 6 → Prop} (h0 : P 0) (h1 : P 1) (h2 : P 2) (h3 : P 3) (h4 : P 4) (h5 : P 5) : ∀ k, P k := by
  intro k
  fin_cases k <;> assumption

theorem placesOf_push (k : RecallStack) (e : RecallEntry) : placesOf (k.push e) = some e :: (placesOf k).dropLast := by
  obtain ⟨p0, p1, p2, p3, p4, p5, top⟩ := k
  revert top
  exact top_cases rfl rfl rfl rfl rfl rfl

theorem placesOf_eq_dropLast (k : RecallStack) : placesOf k = (placesOf k).dropLast ++ [k.place (k.top + 1)] := by
  obtain ⟨p0, p1, p2, p3, p4, p5, top⟩ := k
  revert top
  exact top_cases rfl rfl rfl rfl rfl rfl

theorem placesOf_eq_cons (k : RecallStack) : placesOf k = k.place k.top :: (placesOf k).tail := rfl

theorem placesOf_pop (k : RecallStack) : placesOf k.pop = (placesOf k).tail ++ [none] := by
  obtain ⟨p0, p1, p2, p3, p4, p5, top⟩ := k
  revert top
  exact top_cases rfl rfl rfl rfl rfl rfl

theorem pop_push_places (k : RecallStack) (e : RecallEntry) :
    placesOf (k.push e).pop = (placesOf k).dropLast ++ [none] := by
  rw [placesOf_pop, placesOf_push]
  rfl

theorem depth_eq_places (k : RecallStack) : k.depth = ((placesOf k).filter Option.isSome).length := by
  have hperm : (placesOf k).Perm [k.p0, k.p1, k.p2, k.p3, k.p4, k.p5] := by
    obtain ⟨p0, p1, p2, p3, p4, p5, top⟩ := k
    rw [List.perm_iff_count]
    intro a
    revert top
    refine top_cases ?_ ?_ ?_ ?_ ?_ ?_ <;>
      simp only [placesOf, List.map_cons, List.map_nil, RecallStack.place, List.count_cons, List.count_nil, Fin.reduceSub] <;>
      omega
  exact ((hperm.filter _).length_eq).symm

theorem depth_eq_newestFirst (k : RecallStack) : k.depth = k.newestFirst.length := by
  rw [depth_eq_places, newestFirst_eq, List.reduceOption_length_eq]

theorem newestFirst_push (k : RecallStack) (e : RecallEntry) :
    (k.push e).newestFirst
      = e :: (if (k.place (k.top + 1)).isSome then k.newestFirst.dropLast else k.newestFirst) := by
  rw [newestFirst_eq, placesOf_push, newestFirst_eq k, placesOf_eq_dropLast k, List.dropLast_concat]
  cases k.place (k.top + 1) with
  | none => simp [List.reduceOption_append]
  | some o => simp [List.reduceOption_append, List.reduceOption_singleton]

theorem newestFirst_pop {k : RecallStack} {o : RecallEntry} (h : k.place k.top = some o) :
    k.newestFirst = o :: k.pop.newestFirst := by
  rw [newestFirst_eq, newestFirst_eq, placesOf_pop, placesOf_eq_cons, h]
  simp [List.reduceOption_append]

theorem newestFirst_push_pop {k : RecallStack} (h : k.place (k.top + 1) = none) (e : RecallEntry) :
    (k.push e).pop.newestFirst = k.newestFirst := by
  rw [newestFirst_eq, newestFirst_eq, pop_push_places, placesOf_eq_dropLast k, h, List.dropLast_concat]

/-- Settles O27: an entry is put between the priority entries and the others; newest first, a push shifts the six places by one
and a pop shifts them back. -/
theorem entriesAndRecallsKeepTheirOrder : Obligations.EntriesAndRecallsKeepTheirOrder := by
  unfold Obligations.EntriesAndRecallsKeepTheirOrder
  refine ⟨fun a b e ha hb => insertEntry_between ha hb e,
    fun k e => ⟨newestFirst_push k e, fun o ho => ?_, depth_eq_newestFirst k, fun hfree => ?_⟩⟩
  · have hpop := newestFirst_pop ho
    refine ⟨hpop, ?_⟩
    rw [depth_eq_newestFirst, depth_eq_newestFirst, hpop, List.length_cons]
  · refine ⟨newestFirst_push_pop hfree e, ?_⟩
    rw [depth_eq_newestFirst, depth_eq_newestFirst, newestFirst_push, hfree]
    simp

end Sys2Proof.Proofs
end


section
/-! PROOF. Requests that change one slot and answer (R120, R173), and SUSPEND (R49). -/

namespace Sys2Proof.Proofs

open Sys2Proof Sys2Proof.Machine

set_option Elab.async false

/-! ### Events that change one slot -/

theorem evModSlot_modSlot (ev : Ev) (i : SlotId) (f g : Slot → Slot) :
    (ev.modSlot i f).modSlot i g = ev.modSlot i (fun x => g (f x)) := by simp [Ev.modSlot, Ev.onState]

theorem modCrusher_eq (ev : Ev) (i : SlotId) (f : Crusher → Crusher) :
    ev.modCrusher i f = ev.modSlot i (fun x => { x with crusher := f x.crusher }) := rfl

theorem setDrive_eq (ev : Ev) (i : SlotId) (c : DriveCmd) : ev.setDrive i c = ev.modSlot i (fun x => x.command ev.now c) := rfl

@[simp] theorem now_modSlot (ev : Ev) (i : SlotId) (f : Slot → Slot) : (ev.modSlot i f).now = ev.now := rfl

theorem evModSlot_congr {ev : Ev} {i : SlotId} {f g : Slot → Slot} (h : f (ev.slot i) = g (ev.slot i)) :
    ev.modSlot i f = ev.modSlot i g := congrArg (fun s => { ev with s := s }) (modSlot_congr h)

section
variable {s : State} {c : ReqCode} {r : Request} {i : SlotId}

/-- A taken request that changes one slot and answers. -/
theorem exec_changes (ht : Taken s c r) {f : Slot → Slot} {d : Disposition} {why : Reason} {body : ReplyBody}
    (hh : Ev.handle c r (Ev.of (s.countRequest r.port)) = ((Ev.of (s.countRequest r.port)).modSlot i f).answerAt 0 c r d why body) :
    exec (c.command r) s = .next ((s.modSlot i f).withReply c r d why body) := by
  simpa using exec_answered ht hh rfl (s.modSlot i f) rfl rfl rfl

/-! ### The checks of a request on a crusher (R1, R119) -/

theorem onCrusher_badSlot (h : ∀ i, slotOfByte r.slot = some i → (s.slots.get i).kind.isCrusher = false)
    (effect : Ev → SlotId → Ev) :
    (Ev.of (s.countRequest r.port)).onCrusher c r effect = (Ev.of (s.countRequest r.port)).refuse c r .badSlot := by
  have hslot : (s.countRequest r.port).slotOf r.slot (fun x => x.kind.isCrusher) = none := by
    unfold State.slotOf
    cases hb : slotOfByte r.slot with
    | none => rfl
    | some i => simp [h i hb]
  simp only [Ev.onCrusher, Ev.of_s, hslot]

/-- The holder check gives the reason it turns the port away for (R119). -/
theorem holderRefusal_away {p : Port} (h : (s.slots.get i).holder ≠ some p) : s.holderRefusal p i = some (s.awayReason p i) := by
  unfold State.holderRefusal State.awayReason
  rw [if_neg h]
  cases s.localStation i with
  | none => rfl
  | some q => exact apply_ite some .. |>.symm

theorem holderRefusal_holder {p : Port} (h : (s.slots.get i).holder = some p) : s.holderRefusal p i = none := if_pos h

@[simp] theorem holderRefusal_countRequest (p q : Port) : (s.countRequest q).holderRefusal p i = s.holderRefusal p i := rfl

theorem onCrusher_away (hslot : slotOfByte r.slot = some i) (hk : (s.slots.get i).kind.isCrusher = true)
    (h : (s.slots.get i).holder ≠ some r.port) (effect : Ev → SlotId → Ev) :
    (Ev.of (s.countRequest r.port)).onCrusher c r effect
      = (Ev.of (s.countRequest r.port)).refuse c r (s.awayReason r.port i) := by
  simp [Ev.onCrusher, State.slotOf, hslot, hk, holderRefusal_away h, Ev.unless]

end

/-! ### Suspension (R48) -/

/-- A slot whose move in flight takes a cause: the drive at HOLD and the move as `suspendedBy` says. -/
def suspendSlot (k : Cause) (s : State) (x : Slot) : Slot :=
  { x.command s.clock .hold with
    crusher := suspendedBy k ((s.remaining x.crusher.travel).getD 0) (s.clock + x.cp.suspLimit * 1000) x.crusher }

theorem addCause_inFlight {ev : Ev} {i : SlotId} (h : InFlight (ev.crusher i).motion) (k : Cause) :
    ev.addCause i k = ev.modSlot i (suspendSlot k ev.s) := by
  have hsteps : ev.addCause i k = ((((ev.stopMotion i).setMotion i .suspended).modCrusher i (fun c =>
      { c with suspension := some (ev.s.clock + (ev.slot i).cp.suspLimit * 1000) })).onMove i (fun m =>
        { m with causes := m.causes.put k true
                 returnTo := if (ev.crusher i).motion = .draining then .draining else .moving
                 remaining := (ev.s.remaining (ev.crusher i).travel).getD 0 })) := by
    have hcp : (((ev.stopMotion i).setMotion i .suspended).slot i).cp = (ev.slot i).cp :=
      ((Tended.refl i ev).stopMotion.setMotion _).cp i
    rcases h with h | h | h <;> simp only [Ev.addCause, h, Ev.addCause.suspLimitMs, hcp, Ev.timer] <;> rfl
  rw [hsteps, Ev.onMove, Ev.setMotion, Ev.stopMotion, Ev.holdDrive, setDrive_eq]
  simp only [modCrusher_eq, evModSlot_modSlot]
  refine evModSlot_congr ?_
  simp only [suspendSlot, suspendedBy, Crusher.stopMoveTimers, Slot.command, Ev.crusher]
  rfl

theorem addCause_waiting {ev : Ev} {i : SlotId} (h : Waiting (ev.crusher i).motion) (k : Cause) :
    ev.addCause i k = ev.onMove i (fun m => { m with causes := m.causes.put k true }) := by
  rcases h with h | h | h <;> simp only [Ev.addCause, h]

/-! ### SUSPEND (R49) -/

theorem handle_suspend {s : State} {r : Request} {i : SlotId} (ho : Owns s r i) (hk : (s.slots.get i).kind.isCrusher = true) :
    Ev.handle .suspend r (Ev.of (s.countRequest r.port)) =
      if (s.slots.get i).crusher.motion.suspendable then
        ((Ev.of (s.countRequest r.port)).addCause i .request).done .suspend r .empty
      else (Ev.of (s.countRequest r.port)).refuse .suspend r .notActive := by
  show (Ev.of (s.countRequest r.port)).onSuspend r = _
  rw [Ev.onSuspend, onCrusher_owned ho hk]
  have hm : ((Ev.of (s.countRequest r.port)).crusher i).motion = (s.slots.get i).crusher.motion := rfl
  rw [hm]
  cases (s.slots.get i).crusher.motion.suspendable <;> rfl

/-- Settles O32: the request comes to `addCause` with REQUEST, which changes the one slot. -/
theorem suspendKeepsTheMove : Obligations.SuspendKeepsTheMove := by
  unfold Obligations.SuspendKeepsTheMove
  intro s r ht
  refine ⟨fun hbad => refuses_of_handle ht (onCrusher_badSlot hbad _), fun i hslot => ?_⟩
  intro x c asked
  refine ⟨fun hk haway => refuses_of_handle ht (onCrusher_away hslot hk haway _), fun ⟨_, ho, hk⟩ => ?_⟩
  have hhandle := handle_suspend ho hk
  refine ⟨fun hmotion => ?inFlight, fun hmotion => ?suspended, fun hmotion => ?other⟩
  case inFlight =>
    have hable : c.motion.suspendable = true := by rcases hmotion with h | h | h <;> rw [h] <;> rfl
    rw [if_pos hable, addCause_inFlight (ev := Ev.of (s.countRequest r.port)) hmotion] at hhandle
    rw [show Instr.suspend r = ReqCode.suspend.command r from rfl, exec_changes ht hhandle]
    exact congrArg (fun t => Host.Outcome.next (State.withReply t .suspend r .done .noReason .empty)) (modSlot_congr rfl)
  case suspended =>
    have hable : c.motion.suspendable = true := by rw [hmotion]; rfl
    rw [if_pos hable, addCause_waiting (ev := Ev.of (s.countRequest r.port)) (.inl hmotion)] at hhandle
    rw [show Instr.suspend r = ReqCode.suspend.command r from rfl, exec_changes ht hhandle]
    exact congrArg (fun t => Host.Outcome.next (State.withReply t .suspend r .done .noReason .empty)) (modSlot_congr rfl)
  case other =>
    have hunable : c.motion.suspendable = false := by rcases hmotion with h | h | h | h | ⟨b, h⟩ <;> rw [h] <;> rfl
    rw [hunable] at hhandle
    exact refuses_of_handle ht hhandle

end Sys2Proof.Proofs
end


section
/-! PROOF. GO (R56). -/

namespace Sys2Proof.Proofs

open Sys2Proof Sys2Proof.Machine

set_option Elab.async false

/-! ### The same change at each slot of a list -/

theorem each_modSlot (f : Slot → Slot) : ∀ (l : List SlotId) (ev : Ev), l.Nodup → ev.each l (fun ev i => ev.modSlot i f) =
    ev.onState (fun s => { s with slots := PerSlot.of (fun i => if i ∈ l then f (s.slots.get i) else s.slots.get i) })
  | [], ev, _ => by simp [Ev.each, Ev.onState]
  | j :: l, ev, hnodup => by
    obtain ⟨hj, hl⟩ := List.nodup_cons.mp hnodup
    have ih := each_modSlot f l (ev.modSlot j f) hl
    have hslots : PerSlot.of (fun i => if i ∈ l then f ((ev.s.modSlot j f).slots.get i) else (ev.s.modSlot j f).slots.get i)
        = PerSlot.of (fun i => if i ∈ j :: l then f (ev.s.slots.get i) else ev.s.slots.get i) := by
      refine PerSlot.ext_get (fun i => ?_)
      rw [PerSlot.get_of, PerSlot.get_of]
      by_cases hij : i = j
      · subst hij; simp [hj]
      · simp [hij]
    show (ev.modSlot j f).each l (fun ev i => ev.modSlot i f) = _
    rw [ih]
    exact congrArg (fun x => { ev with s := { ev.s with slots := x } }) hslots

/-- A start check at crushers that are not IDLE starts nothing (R41). -/
theorem each_check_busy : ∀ (l : List SlotId) (ev : Ev), (∀ i ∈ l, (ev.slot i).crusher.motion ≠ .idle) →
    ev.each l (fun ev i => ev.check i) = ev
  | [], _, _ => rfl
  | j :: l, ev, h => by
    show (ev.check j).each l (fun ev i => ev.check i) = ev
    rw [check_busy ev j true (h j (List.mem_cons_self ..))]
    exact each_check_busy l ev (fun i hi => h i (List.mem_cons_of_mem _ hi))

theorem slotIds_sorted : slotIds.Pairwise (· < ·) := by decide

/-! ### The lowest slot that the holder check refuses (R56, R155) -/

theorem holderRefusals_held {s : State} {p : Port} {l : List SlotId} (h : ∀ i ∈ l, (s.slots.get i).holder = some p) :
    s.holderRefusals p l = none := List.findSome?_eq_none_iff.mpr (fun i hi => holderRefusal_holder (h i hi))

theorem holderRefusals_first {s : State} {r : Request} {i : SlotId} : ∀ {l : List SlotId}, l.Pairwise (· < ·) →
    FirstNotHeld s r l i → s.holderRefusals r.port l = some (s.awayReason r.port i)
  | [], _, ⟨hi, _, _⟩ => absurd hi List.not_mem_nil
  | j :: l, hsorted, ⟨hi, haway, hbelow⟩ => by
    obtain ⟨hj, hl⟩ := List.pairwise_cons.mp hsorted
    unfold State.holderRefusals
    rcases List.mem_cons.mp hi with rfl | hmem
    · rw [List.findSome?_cons, holderRefusal_away haway]
    · rw [List.findSome?_cons, holderRefusal_holder (hbelow j (List.mem_cons_self ..) (hj i hmem))]
      exact holderRefusals_first hl ⟨hmem, haway, fun k hk => hbelow k (List.mem_cons_of_mem _ hk)⟩

/-! ### The staged marks (R56) -/

section
variable {c : Crusher} {p : Entry → Bool}

theorem hasStaged_iff : c.hasStaged p = true ↔ ∃ e ∈ c.queue, p e = true ∧ e.staged = true := by
  simp only [Crusher.hasStaged, List.any_eq_true, Bool.and_eq_true]
  exact exists_congr fun e => and_congr_right fun _ => and_comm

/-- Where no mark is found, a release changes nothing. -/
theorem release_unstaged (h : c.hasStaged p = false) : c.release p = c := by
  have hsame : c.queue.map (fun e => if p e then { e with staged := false } else e) = c.queue := by
    refine (List.map_congr_left fun e he => ?_).trans (List.map_id _)
    by_cases hp : p e = true
    · have hmark : e.staged = false := by
        by_contra hs
        exact absurd (hasStaged_iff.mpr ⟨e, he, hp, by simpa using hs⟩) (by simp [h])
      rw [if_pos hp, ← hmark]; rfl
    · exact if_neg hp
  show { c with queue := _ } = c
  rw [hsame]

end

section
variable {s : State} {r : Request} {l : List SlotId} {p : Entry → Bool}

theorem go_nothing {ev : Ev} (h : ∀ i ∈ l, (ev.crusher i).hasStaged p = false) : ev.go r l p = ev.refuse .go r .nothingStaged := by
  have hnone : l.filter (fun i => (ev.crusher i).hasStaged p) = [] := by simpa using h
  simp only [Ev.go, hnone]

theorem go_released {ev : Ev} (h : ∃ i ∈ l, (ev.crusher i).hasStaged p = true)
    (hbusy : ∀ i ∈ l, (ev.crusher i).hasStaged p = true → (ev.crusher i).motion ≠ .idle) (hnodup : l.Nodup) :
    ev.go r l p = (ev.onState (fun s => { s with slots := PerSlot.of (fun i =>
      if i ∈ l then { s.slots.get i with crusher := (s.slots.get i).crusher.release p } else s.slots.get i) })).done .go r .empty := by
  obtain ⟨j, hj, hmark⟩ := h
  have hne : l.filter (fun i => (ev.crusher i).hasStaged p) ≠ [] := List.ne_nil_of_mem (List.mem_filter.mpr ⟨hj, hmark⟩)
  have hgo : ev.go r l p = ((ev.each (l.filter (fun i => (ev.crusher i).hasStaged p)) (fun ev i => ev.modCrusher i (·.release p))).done
      .go r .empty).each (l.filter (fun i => (ev.crusher i).hasStaged p)) (fun ev i => ev.check i) := by
    unfold Ev.go
    split
    · next hnil => exact absurd hnil hne
    · rfl
  have hsame : ev.each (l.filter (fun i => (ev.crusher i).hasStaged p)) (fun ev i => ev.modCrusher i (·.release p)) =
      ev.onState (fun s => { s with slots := PerSlot.of (fun i =>
        if i ∈ l then { s.slots.get i with crusher := (s.slots.get i).crusher.release p } else s.slots.get i) }) := by
    refine (each_modSlot (fun x => { x with crusher := x.crusher.release p }) _ ev (hnodup.filter _)).trans ?_
    refine congrArg (fun x => { ev with s := { ev.s with slots := x } }) (PerSlot.ext_get fun i => ?_)
    rw [PerSlot.get_of, PerSlot.get_of]
    by_cases hi : i ∈ l
    · cases hs : (ev.crusher i).hasStaged p with
      | true => simp [List.mem_filter, hi, hs]
      | false =>
        have hrelease : (ev.s.slots.get i).crusher.release p = (ev.s.slots.get i).crusher := release_unstaged hs
        simp [List.mem_filter, hi, hs, hrelease]
    · simp [List.mem_filter, hi]
  rw [hgo, hsame, each_check_busy]
  intro i hi
  obtain ⟨hil, hs⟩ := List.mem_filter.mp hi
  have hmotion := hbusy i hil hs
  show ((PerSlot.of _).get i : Slot).crusher.motion ≠ .idle
  rw [PerSlot.get_of, if_pos hil]
  exact hmotion

/-- A GO that passes its checks: refused where nothing is staged, else the marks are cleared (R56). -/
theorem exec_go (ht : Taken s .go r) (hnodup : l.Nodup)
    (hh : Ev.handle .go r (Ev.of (s.countRequest r.port)) = (Ev.of (s.countRequest r.port)).go r l p) :
    let found := fun (i : SlotId) => ∃ e ∈ (s.slots.get i).crusher.queue, p e = true ∧ e.staged = true
    ((∀ i ∈ l, ¬ found i) → Refuses s .go r .nothingStaged)
      ∧ ((∃ i ∈ l, found i) → (∀ i ∈ l, found i → (s.slots.get i).crusher.motion ≠ .idle) →
        exec (.go r) s = .next (({ s with slots := PerSlot.of (fun i =>
          if i ∈ l then { s.slots.get i with crusher := (s.slots.get i).crusher.release p } else s.slots.get i) } : State).withReply
            .go r .done .noReason .empty)) := by
  refine ⟨fun hnone => refuses_of_handle ht (hh.trans (go_nothing fun i hi => ?_)), fun ⟨i, hi, hfound⟩ hbusy => ?_⟩
  · exact Bool.eq_false_iff.mpr (fun h => hnone i hi (hasStaged_iff.mp h))
  · rw [go_released (ev := Ev.of (s.countRequest r.port)) (p := p) ⟨i, hi, hasStaged_iff.mpr hfound⟩ (fun j hj hs => hbusy j hj (hasStaged_iff.mp hs)) hnodup] at hh
    have h := exec_answered ht hh rfl { s with slots := PerSlot.of (fun i =>
      if i ∈ l then { s.slots.get i with crusher := (s.slots.get i).crusher.release p } else s.slots.get i) } rfl rfl rfl
    exact h.trans (congrArg Host.Outcome.next (announce_nil _))

theorem goRefusal_none (h : ∀ i ∈ l, (s.slots.get i).kind.isCrusher = true ∧ (s.slots.get i).holder = some r.port) :
    s.goRefusal r.port l = none := by
  rw [State.goRefusal, if_pos (List.all_eq_true.mpr fun i hi => (h i hi).1)]
  exact holderRefusals_held fun i hi => (h i hi).2

/-- Settles O34: the checks in their order, then `exec_go` for the form of the request. -/
theorem goClearsStagedMarks : Obligations.GoClearsStagedMarks := by
  unfold Obligations.GoClearsStagedMarks
  intro s r ht hline cleared found outcome
  have hscope : lineScope r = none := if_pos hline
  have hhandle : Ev.handle .go r (Ev.of (s.countRequest r.port)) = (Ev.of (s.countRequest r.port)).onGo r := rfl
  rw [Ev.onGo, hscope] at hhandle
  simp only [Ev.unless, Ev.of_s] at hhandle
  refine ⟨fun hform => ?_, fun hform => ?_, fun hform => ?_⟩
  · have h0 : byteAt r.payload 0 ≠ 0 := by intro h; rw [h] at hform; exact absurd hform (by decide)
    have h1 : byteAt r.payload 0 ≠ 1 := by intro h; rw [h] at hform; exact absurd hform (by decide)
    rw [if_neg h0, if_neg h1] at hhandle
    exact refuses_of_handle ht hhandle
  · intro l
    rw [if_pos hform] at hhandle
    have hsorted : l.Pairwise (· < ·) := slotIds_sorted.filter _
    have hl : (slotSetAt r.payload 1).slots = l := rfl
    have hgate : (s.countRequest r.port).goRefusal r.port l = s.goRefusal r.port l := rfl
    rw [hl, hgate] at hhandle
    refine ⟨fun ⟨i, hi, hk⟩ => ?_, fun i hk hfirst => ?_, fun hmine => ?_⟩
    · have hbad : s.goRefusal r.port l = some .badSlot := if_neg fun hall => by
        rw [List.all_eq_true.mp hall i hi] at hk; exact absurd hk (by decide)
      rw [hbad] at hhandle
      exact refuses_of_handle ht hhandle
    · have haway : s.goRefusal r.port l = some (s.awayReason r.port i) :=
        (if_pos (List.all_eq_true.mpr hk)).trans (holderRefusals_first hsorted hfirst)
      rw [haway] at hhandle
      exact refuses_of_handle ht hhandle
    · rw [goRefusal_none hmine] at hhandle
      have hnone : ∀ e : Entry, e.changeId.isNone = (e.changeId == none) := fun e => by cases e.changeId <;> rfl
      simp only [hnone] at hhandle
      exact exec_go ht (hsorted.imp (fun h => ne_of_lt h)) hhandle
  · have h0 : byteAt r.payload 0 ≠ 0 := by rw [hform]; decide
    rw [if_neg h0, if_pos hform] at hhandle
    have hchange : (s.countRequest r.port).change = s.change := rfl
    rw [hchange] at hhandle
    refine ⟨fun hother => ?_, fun c hc hid => ?_⟩
    · cases hc : s.change with
      | none => rw [hc] at hhandle; exact refuses_of_handle ht hhandle
      | some c => rw [hc] at hhandle; exact refuses_of_handle ht (hhandle.trans (if_pos (hother c hc)))
    · rw [hc] at hhandle
      dsimp only at hhandle
      rw [if_neg (not_not.mpr hid)] at hhandle
      refine ⟨fun horigin => refuses_of_handle ht (hhandle.trans (if_pos horigin)), fun horigin => ?_⟩
      exact exec_go ht (slotIds_sorted.imp (fun h => ne_of_lt h)) (hhandle.trans (if_neg (not_not.mpr horigin)))

end

end Sys2Proof.Proofs
end


section
/-! PROOF. What the end of a move leaves at its slot, on the linked feeder and at the ports (R39, R51, R144, R159, R176). -/

namespace Sys2Proof.Proofs

open Sys2Proof Sys2Proof.Machine

set_option Elab.async false

/-! ### What joins the queues of a port (R158, R159, R176) -/

/-- The first replies of an event join, where there are places for them. -/
theorem joinReplies_prefix (a b : List Raised) : ∀ n, (a.filter (fun r => !r.immediate)).length ≤ n →
    a.map (·.reply) <+: joinReplies n (a ++ b) := by
  induction a with
  | nil => exact fun n _ => List.nil_prefix
  | cons r a ih =>
    intro n hn
    cases hr : r.immediate with
    | true =>
      simp only [List.filter_cons, hr] at hn
      simp only [List.cons_append, joinReplies, hr, if_true, List.map_cons]
      exact List.prefix_cons_inj _ |>.mpr (ih n (by simpa using hn))
    | false =>
      simp only [List.filter_cons, hr, Bool.not_false, if_true, List.length_cons] at hn
      obtain ⟨n, rfl⟩ : ∃ m, n = m + 1 := ⟨n - 1, by omega⟩
      simp only [List.cons_append, joinReplies, hr, List.map_cons]
      exact List.prefix_cons_inj _ |>.mpr (ih n (by omega))

section
variable {ev : Ev} {q : Port} (hp : ev.s.phase = .running) (he : ev.s.enabled q = true)
include hp he

theorem commit_tx : (ev.commit.ports.get q).tx = (ev.s.ports.get q).tx ++ joinReplies
    (64 - (ev.s.ports.get q).tx.length - ((ev.replies.filter (fun r => r.port == q)).filter (·.immediate)).length)
      (ev.replies.filter (fun r => r.port == q)) := by
  simp only [Ev.commit, hp, if_true, PerPort.get_of, he, PortState.deliver]
  exact joinAll_tx ..

/-- The first replies of an event join the transmit queue of their port, where it has places for them and all others are final replies. -/
theorem commit_tx_prefix {a b : List Raised} (hr : ev.replies = a ++ b) (hb : ∀ r ∈ b, r.immediate = false)
    (hlen : (ev.s.ports.get q).tx.length + (a.filter (fun r => r.port == q)).length ≤ 64) :
    (ev.s.ports.get q).tx ++ (a.filter (fun r => r.port == q)).map (·.reply) <+: (ev.commit.ports.get q).tx := by
  have hnone : (b.filter (fun r => r.port == q)).filter (·.immediate) = [] := by
    rw [List.filter_eq_nil_iff]
    intro r hr
    rw [hb r (List.mem_of_mem_filter hr)]
    exact Bool.false_ne_true
  have hsplit := List.length_eq_length_filter_add (l := a.filter (fun r => r.port == q)) (·.immediate)
  rw [commit_tx hp he, hr, List.filter_append, List.filter_append, hnone, List.append_nil]
  exact (List.prefix_append_right_inj _).mpr (joinReplies_prefix _ _ _ (by omega))

/-- Where there are places for all replies, all of them join, in order. -/
theorem commit_tx_all (hlen : (ev.s.ports.get q).tx.length + (ev.replies.filter (fun r => r.port == q)).length ≤ 64) :
    (ev.commit.ports.get q).tx = (ev.s.ports.get q).tx ++ (ev.replies.filter (fun r => r.port == q)).map (·.reply) := by
  have hsplit := List.length_eq_length_filter_add (l := ev.replies.filter (fun r => r.port == q)) (·.immediate)
  rw [commit_tx hp he, joinReplies_all _ _ (by omega)]

/-- The first notices of an event join at a port that is subscribed to every kind and has places for them. -/
theorem commit_notices_prefix {a b : List Notice} (hn : ev.notices = a ++ b) (hsubs : (ev.s.ports.get q).subs = NoticeSet.every)
    (hoffer : ∀ n ∈ a, n.offeredTo q = true) (hlen : (ev.s.ports.get q).notices.length + a.length ≤ 16) :
    (ev.s.ports.get q).notices ++ a <+: (ev.commit.ports.get q).notices := by
  obtain ⟨replies, turn, hq⟩ := deliver_enabled (ev.s.ports.get q) q (a ++ b) ev.replies
  have hjoined := joinAll_notices (p := q) a { ev.s.ports.get q with tx := (ev.s.ports.get q).tx ++ replies } hsubs hoffer hlen
  simp only [Ev.commit, hp, if_true, PerPort.get_of, he, hn, hq]
  have hsplit : ∀ q₀, joinAll q₀ q (a ++ b) = joinAll (joinAll q₀ q a) q b := fun q₀ => List.foldl_append
  rw [← hjoined, hsplit]
  exact (joinAll_heard b _ q).2

end

/-! ### The line change unit leaves the slot whose item ends (R144, R145) -/

theorem slot_record_ne (ev : Ev) {i j : SlotId} (h : i ≠ j) (k : Cond) : (ev.record j k).slot i = ev.slot i := by
  cases hmem : (ev.slot j).conds.mem k with
  | true => rw [record_present hmem]
  | false => rw [record_absent hmem]; exact State.modSlot_slot_ne _ _ h

theorem slot_applyFeedItem_ne (ev : Ev) {i : SlotId} {x : Item} (h : i ≠ x.slot) : (ev.applyFeedItem x).slot i = ev.slot i := by
  have hset : ∀ (ev : Ev) (g : Feeder → Feeder), (ev.modFeeder x.slot g).slot i = ev.slot i :=
    fun ev g => State.modSlot_slot_ne _ _ h
  have hwrite : ∀ (rb : Nat) (mode : RegMode) (ls : Nat), (ev.writeRate x.slot rb mode ls).slot i = ev.slot i := by
    intro rb mode ls
    unfold Ev.writeRate
    dsimp only
    split <;> split
    · exact hset ..
    · rw [slot_record_ne _ h, hset]
    · rw [slot_markDirty, hset]
    · rw [slot_markDirty, slot_record_ne _ h, hset]
  unfold Ev.applyFeedItem
  split
  · rfl
  · split
    · rfl
    · dsimp only
      split <;> exact hwrite ..

theorem slot_waveThree {ev : Ev} {i : SlotId} (h : ∀ c, ev.s.change = some c → ∀ x ∈ c.items, x.slot = i → x.state.terminal = true) :
    ev.waveThree.slot i = ev.slot i := by
  have hall : ∀ (xs : List Item) (ev : Ev), (∀ x ∈ xs, i ≠ x.slot) → (xs.foldl (fun ev x => ev.applyFeedItem x) ev).slot i = ev.slot i := by
    intro xs
    induction xs with
    | nil => exact fun ev _ => rfl
    | cons x xs ih =>
      intro ev hx
      exact (ih _ (fun y hy => hx y (List.mem_cons_of_mem _ hy))).trans (slot_applyFeedItem_ne ev (hx x (List.mem_cons_self ..)))
  unfold Ev.waveThree
  split
  · rfl
  · next c hc =>
    refine hall _ _ (fun x hx hslot => ?_)
    obtain ⟨hmem, hpending⟩ := List.mem_filter.mp hx
    have hterminal := h c hc x hmem hslot.symm
    simp only [Bool.and_eq_true, beq_iff_eq] at hpending
    rw [hpending.1] at hterminal
    cases hterminal

theorem slot_concludeChange (ev : Ev) (i : SlotId) : ev.concludeChange.slot i = ev.slot i := by
  unfold Ev.concludeChange
  split
  · rfl
  · dsimp only
    simp only [Ev.slot, Ev.onState_s, Ev.notify_s, Ev.finalReply_s]

theorem slot_advanceChange {ev : Ev} {i : SlotId} (h : ∀ c, ev.s.change = some c → ∀ x ∈ c.items, x.slot = i → x.state.terminal = true) :
    ev.advanceChange.slot i = ev.slot i := by
  unfold Ev.advanceChange
  split
  · rfl
  · split
    · rw [slot_concludeChange, slot_waveThree h]
    · rfl

/-- Once the items of a slot have a terminal state, no item is left to be applied there. -/
theorem setItem_terminal {ev : Ev} {i : SlotId} {st : ItemState} (hst : st.terminal = true) (r : Reason) :
    ∀ c, (ev.setItem i st r).s.change = some c → ∀ x ∈ c.items, x.slot = i → x.state.terminal = true := by
  intro c hc x hx hslot
  simp only [Ev.setItem, Ev.onChange, Ev.onState_s, Option.map_eq_some_iff] at hc
  obtain ⟨c₀, -, rfl⟩ := hc
  simp only [Change.onItem, List.mem_map] at hx
  obtain ⟨y, -, rfl⟩ := hx
  split at hslot
  · next hy => rw [if_pos hy]; exact hst
  · next hy => exact absurd hslot hy

theorem slot_changeItemEnd (ev : Ev) (id : Option Nat) (i : SlotId) {st : ItemState} (hst : st.terminal = true) (r : Reason) :
    (ev.changeItemEnd id i st r).slot i = ev.slot i := by
  unfold Ev.changeItemEnd
  split
  · split
    · exact slot_advanceChange (setItem_terminal hst r)
    · rfl
  · rfl

theorem itemState_terminal (d : Disposition) : d.itemState.terminal = true := by cases d <;> rfl

theorem slot_endEntry (ev : Ev) (i : SlotId) (r : Reason) (e : Entry) : (ev.endEntry i r e).slot i = ev.slot i := by
  rw [Ev.endEntry, slot_changeItemEnd _ _ _ rfl]
  exact congrArg (fun s : State => s.slots.get i) (by simp)

/-! ### Steps that leave the inhibit sets (R108) -/

/-- No slot's parameters and no feeder's inhibit set have changed. -/
structure SameInhibits (ev ev' : Ev) : Prop where
  cp : ∀ j, (ev'.slot j).cp = (ev.slot j).cp
  inhibits : ∀ j, (ev'.feeder j).inhibits = (ev.feeder j).inhibits

namespace SameInhibits

variable {ev₀ ev ev' : Ev} {i : SlotId}

theorem refl (ev : Ev) : SameInhibits ev ev := ⟨fun _ => rfl, fun _ => rfl⟩

theorem of_spared (h : Spared ev ev') : SameInhibits ev ev' := ⟨fun j => by rw [h.slot j], h.inhibits⟩

theorem trans (h : SameInhibits ev₀ ev) (h' : SameInhibits ev ev') : SameInhibits ev₀ ev' :=
  ⟨fun j => (h'.cp j).trans (h.cp j), fun j => (h'.inhibits j).trans (h.inhibits j)⟩

theorem modCrusher (ev : Ev) (i : SlotId) (f : Crusher → Crusher) : SameInhibits ev (ev.modCrusher i f) := by
  have hslot : ∀ j, (ev.modCrusher i f).slot j = { ev.slot j with crusher := ((ev.modCrusher i f).slot j).crusher } := by
    intro j
    by_cases hj : j = i
    · subst hj; rw [slot_modCrusher]
    · have : (ev.modCrusher i f).slot j = ev.slot j := State.modSlot_slot_ne _ _ hj
      rw [this]
  exact ⟨fun j => by rw [hslot j], fun j => by rw [Ev.feeder, hslot j]; rfl⟩

theorem onLinked (h : SameInhibits ev ev') {p : Inhibits → Prop} (ho : OnLinked ev.s i (fun f => p f.inhibits)) :
    OnLinked ev'.s i (fun f => p f.inhibits) := by
  intro f hf
  have hcp : (ev'.slot i).cp = (ev.slot i).cp := h.cp i
  have hinhibits : (ev'.feeder f).inhibits = (ev.feeder f).inhibits := h.inhibits f
  show p (ev'.feeder f).inhibits
  rw [hinhibits]
  exact ho f (by rw [← hf]; exact congrArg CrusherParams.linkedFeeder hcp.symm)

end SameInhibits

/-! ### What a move that ends outside an episode has raised and left when the line change unit is told (R51) -/

/-- The final reply of an entry or move, where it wants one (R39, R51, R175). -/
def finalOf (e : Entry) (i : SlotId) (d : Disposition) (r : Reason) (b : ReplyBody) : List Raised :=
  match e.origin with
  | .port p => if e.ack then [⟨p, false, ⟨e.code.code, d, r, e.tag, e.reqno, e.slotByte i, b⟩⟩] else []
  | .line => []

theorem entryFinal_replies (ev : Ev) (i : SlotId) (e : Entry) (d : Disposition) (r : Reason) (b : ReplyBody) :
    (ev.entryFinal i e d r b).replies = ev.replies ++ finalOf e i d r b := by
  unfold Ev.entryFinal finalOf Ev.finalReply
  cases e.origin with
  | line => simp
  | port p => dsimp only; split <;> simp

theorem entryFinal_notices (ev : Ev) (i : SlotId) (e : Entry) (d : Disposition) (r : Reason) (b : ReplyBody) :
    (ev.entryFinal i e d r b).notices = ev.notices := by
  unfold Ev.entryFinal
  split
  · exact Ev.finalReply_notices ..
  · rfl

/-- The part of it that goes to a port. -/
theorem finalOf_filter (e : Entry) (i : SlotId) (q : Port) (d : Disposition) (r : Reason) (b : ReplyBody) :
    ((finalOf e i d r b).filter (fun x => x.port == q)).map (·.reply) = e.finalTo i q d r b := by
  unfold finalOf Entry.finalTo
  cases e.origin with
  | line => simp
  | port p =>
    cases e.ack with
    | false => simp
    | true =>
      by_cases hp : p = q
      · subst hp; simp
      · simp [hp]

theorem finalOf_filter_length (e : Entry) (i : SlotId) (q : Port) (d : Disposition) (r : Reason) (b : ReplyBody) :
    ((finalOf e i d r b).filter (fun x => x.port == q)).length ≤ 1 := by
  have h := congrArg List.length (finalOf_filter e i q d r b)
  rw [List.length_map] at h
  rw [h, Entry.finalTo]
  split <;> simp

/-- The drive at HOLD, the timers stopped, and DRAIN lowered of a jaw (R51 step 1). -/
def stoppedMove (ev : Ev) (i : SlotId) : Ev :=
  if ((ev.stopMotion i).slot i).kind = .jaw then (ev.stopMotion i).lowerLinked i .drain else ev.stopMotion i

/-- The same, and for a move that has reached its target T_f, the recall stack and W_at_move (R51 step 2). -/
def settledMove (ev : Ev) (i : SlotId) (m : MoveRec) (d : Disposition) : Ev :=
  if GoodEnd d then (stoppedMove ev i).settleTarget i m else stoppedMove ev i

/-- The same, and the record is removed, the final reply and the MOVE_END notice are raised (R51 steps 3 to 5). -/
def closedMove (ev : Ev) (i : SlotId) (m : MoveRec) (d : Disposition) (r : Reason) : Ev :=
  let ev := (settledMove ev i m d).modCrusher i (fun c => { c with move := none })
  (ev.entryFinal i m.entry d r (.moveEnded m.applied (ev.crusher i).tf)).moveEndNotice i m.entry d r

theorem finishMove_closed {ev : Ev} {i : SlotId} {m : MoveRec} (hm : (ev.crusher i).move = some m)
    (hout : (ev.crusher i).motion.inEpisode = false) (d : Disposition) (r : Reason) : ev.finishMove i d r =
      (((closedMove ev i m d r).changeItemEnd m.entry.changeId i d.itemState r).setMotion i .idle,
        some (!(m.entry.kind == .trim && d == .failed))) := by
  simp only [Ev.finishMove, hm, hout, closedMove, settledMove, stoppedMove, Ev.closeMove]
  rfl

section
variable (ev : Ev) (i : SlotId)

theorem slot_stopMotion : (ev.stopMotion i).slot i =
    { (ev.slot i).command ev.now .hold with crusher := (ev.slot i).crusher.stopMoveTimers } := by
  rw [Ev.stopMotion, slot_modCrusher, slot_holdDrive]; rfl

theorem slot_stoppedMove : ∃ f, (stoppedMove ev i).slot i =
    { (ev.slot i).command ev.now .hold with crusher := (ev.slot i).crusher.stopMoveTimers, feeder := f } := by
  unfold stoppedMove
  split
  · obtain ⟨f, hf⟩ := lowerLinked_slot (ev := ev.stopMotion i) (i := i) .drain i
    exact ⟨f, by rw [hf, slot_stopMotion]⟩
  · exact ⟨_, slot_stopMotion ev i⟩

theorem stoppedMove_replies : (stoppedMove ev i).replies = ev.replies := by
  unfold stoppedMove
  split
  · unfold Ev.lowerLinked
    split
    · unfold Ev.lower; split <;> simp [Ev.stopMotion, Ev.holdDrive, Ev.setDrive]
    · rfl
  · rfl

theorem onLinked_stoppedMove (h : (ev.slot i).kind = .jaw) : OnLinked (stoppedMove ev i).s i (fun f => f.inhibits.drain = false) := by
  have hkind : ((ev.stopMotion i).slot i).kind = .jaw := by rw [slot_stopMotion]; exact h
  rw [stoppedMove, if_pos hkind]
  exact onLinked_lowerLinked (ev.stopMotion i) i .drain

/-- A list of at most `k` notices that go to every port. -/
def Offered (k : Nat) (ns : List Notice) : Prop := ns.length ≤ k ∧ ∀ n ∈ ns, ∀ p, n.offeredTo p = true

theorem offered_nil (k : Nat) : Offered k [] := ⟨Nat.zero_le k, by simp⟩

theorem Offered.append {k l : Nat} {ns ms : List Notice} (h : Offered k ns) (h' : Offered l ms) : Offered (k + l) (ns ++ ms) :=
  ⟨by rw [List.length_append]; exact Nat.add_le_add h.1 h'.1, fun n hn p =>
    (List.mem_append.mp hn).elim (fun hn => h.2 n hn p) (fun hn => h'.2 n hn p)⟩

theorem Offered.mono {k l : Nat} {ns : List Notice} (h : Offered k ns) (hkl : k ≤ l) : Offered l ns := ⟨h.1.trans hkl, h.2⟩

theorem offered_single {n : Notice} (h : ∀ p, n.offeredTo p = true) : Offered 1 [n] :=
  ⟨Nat.le_refl 1, fun m hm => by rw [List.mem_singleton.mp hm]; exact h⟩

/-- A recorded condition tells of itself once, where its kind was absent (R152, R157). -/
theorem record_offered (j : SlotId) (k : Cond) : ∃ ns, (ev.record j k).notices = ev.notices ++ ns ∧ Offered 1 ns := by
  cases hmem : (ev.slot j).conds.mem k with
  | true => exact ⟨[], by rw [record_present hmem, List.append_nil], offered_nil 1⟩
  | false => exact ⟨_, record_absent_notices hmem, offered_single (fun _ => rfl)⟩

/-- The event has not changed the run state of a feeder. -/
def NoRunChange (ev : Ev) : Prop := ∀ n ∈ ev.notices, ∀ f, n.runCause f = none

/-- A reason lowered at such an event tells of itself once, behind what the event has raised (R117). -/
theorem lowerLinked_offered {ev : Ev} (h : NoRunChange ev) (r : Inhibit) :
    ∃ ns, (ev.lowerLinked i r).notices = ev.notices ++ ns ∧ Offered 1 ns := by
  unfold Ev.lowerLinked
  split
  · next f _ =>
    unfold Ev.lower
    split
    · have hnone : (ev.modFeeder f (·.lower r)).notices.findSome? (·.runCause f) = none :=
        List.findSome?_eq_none_iff.mpr (fun n hn => h n hn f)
      rw [Ev.inhibitNotice, hnone]
      exact ⟨_, rfl, offered_single (fun _ => rfl)⟩
    · exact ⟨[], (List.append_nil _).symm, offered_nil 1⟩
  · exact ⟨[], (List.append_nil _).symm, offered_nil 1⟩

theorem stoppedMove_notices {ev : Ev} (h : NoRunChange ev) :
    ∃ ns, (stoppedMove ev i).notices = ev.notices ++ ns ∧ Offered 1 ns := by
  unfold stoppedMove
  split
  · exact lowerLinked_offered (ev := ev.stopMotion i) i h .drain
  · exact ⟨[], (List.append_nil _).symm, offered_nil 1⟩

end

section
variable (ev : Ev) (i : SlotId) (m : MoveRec)

/-- The condition set of a slot once a move that ends has pushed its target: a push onto a full stack records HISTORY_WRAP (R57). -/
def wrapConds (m : MoveRec) (x : Slot) : CondSet :=
  if (m.entry.kind = .set ∨ m.entry.kind = .step) ∧ x.crusher.stack.depth = 6 then x.conds.insert .historyWrap else x.conds

theorem slot_pushRecall (o : Origin) : (ev.pushRecall i o).slot i = { ev.slot i with
    crusher := { (ev.slot i).crusher with stack := (ev.slot i).crusher.stack.push ⟨(ev.slot i).crusher.tf, o⟩ }
    conds := if (ev.slot i).crusher.stack.depth = 6 then (ev.slot i).conds.insert .historyWrap else (ev.slot i).conds } := by
  unfold Ev.pushRecall
  dsimp only [Ev.crusher]
  split <;> simp

theorem slot_settleTarget : (ev.settleTarget i m).slot i =
    { ev.slot i with crusher := reached m (ev.slot i).crusher, conds := wrapConds m (ev.slot i) } := by
  unfold Ev.settleTarget wrapConds reached
  cases m.entry.kind <;> simp [slot_pushRecall]

theorem settleTarget_replies : (ev.settleTarget i m).replies = ev.replies := by
  have hpush : ∀ o, (ev.pushRecall i o).replies = ev.replies := by
    intro o; unfold Ev.pushRecall; dsimp only; split <;> simp
  unfold Ev.settleTarget
  cases m.entry.kind <;> simp [hpush, Ev.markDirty]

theorem settleTarget_offered : ∃ ns, (ev.settleTarget i m).notices = ev.notices ++ ns ∧ Offered 1 ns := by
  have hpush : ∀ o, ∃ ns, (ev.pushRecall i o).notices = ev.notices ++ ns ∧ Offered 1 ns := by
    intro o
    unfold Ev.pushRecall
    dsimp only
    split
    · exact record_offered (ev.modCrusher i _) i _
    · exact ⟨[], (List.append_nil _).symm, offered_nil 1⟩
  unfold Ev.settleTarget
  cases m.entry.kind with
  | set => exact hpush _
  | step => exact hpush _
  | trim | calibrate => exact ⟨[], (List.append_nil _).symm, offered_nil 1⟩

theorem settleTarget_dirty : (ev.settleTarget i m).s.isDirty (.wear i) = true := isDirty_markDirty ..

theorem sameInhibits_settleTarget : SameInhibits ev (ev.settleTarget i m) := by
  have hpush : ∀ o, SameInhibits ev (ev.pushRecall i o) := by
    intro o
    unfold Ev.pushRecall
    dsimp only
    split
    · exact (SameInhibits.modCrusher ..).trans (.of_spared (spared_record ..))
    · exact .modCrusher ..
  have hwear : ∀ ev : Ev, SameInhibits ev ((ev.modCrusher i (fun c => { c with wAtMove := c.w })).markDirty (.wear i)) :=
    fun ev => (SameInhibits.modCrusher ..).trans (.of_spared (spared_markDirty ..))
  unfold Ev.settleTarget
  cases m.entry.kind with
  | set => exact ((hpush _).trans (.modCrusher ..)).trans (hwear _)
  | step => exact ((hpush _).trans (.modCrusher ..)).trans (hwear _)
  | trim | calibrate => exact hwear ev

end

theorem Tended.enabled {i : SlotId} {ev ev' : Ev} (h : Tended i ev ev') (q : Port) : ev'.s.enabled q = ev.s.enabled q := by
  rw [h.rest]; cases q <;> rfl

theorem slot_commit (ev : Ev) (j : SlotId) : ev.commit.slots.get j = ev.slot j := by rw [Ev.commit_slots]; rfl

/-! ### The end of a move outside an episode (R51) -/

section
variable {ev : Ev} {i : SlotId} {m : MoveRec} (d : Disposition) (r : Reason)

theorem slot_settledMove : ∃ f, (settledMove ev i m d).slot i = { (ev.slot i).command ev.now .hold with
    crusher := (if GoodEnd d then reached m (ev.slot i).crusher else (ev.slot i).crusher).stopMoveTimers
    conds := if GoodEnd d then wrapConds m (ev.slot i) else (ev.slot i).conds
    feeder := f } := by
  obtain ⟨f, hf⟩ := slot_stoppedMove ev i
  refine ⟨f, ?_⟩
  unfold settledMove
  by_cases hgood : GoodEnd d
  · rw [if_pos hgood, slot_settleTarget, hf]
    simp [hgood, reached, wrapConds, Crusher.stopMoveTimers, Slot.command]
    rfl
  · rw [if_neg hgood, hf]
    simp [hgood, Slot.command]

theorem settledMove_replies : (settledMove ev i m d).replies = ev.replies := by
  unfold settledMove
  split
  · rw [settleTarget_replies, stoppedMove_replies]
  · exact stoppedMove_replies ..

theorem settledMove_offered (h : NoRunChange ev) :
    ∃ ns, (settledMove ev i m d).notices = ev.notices ++ ns ∧ Offered (if GoodEnd d then 2 else 1) ns := by
  obtain ⟨ns, hns, hoffer⟩ := stoppedMove_notices i h
  unfold settledMove
  split
  · obtain ⟨ms, hms, hoffer'⟩ := settleTarget_offered (stoppedMove ev i) i m
    exact ⟨ns ++ ms, by rw [hms, hns, List.append_assoc], hoffer.append hoffer'⟩
  · exact ⟨ns, hns, hoffer⟩

theorem sameInhibits_settledMove : SameInhibits (stoppedMove ev i) (settledMove ev i m d) := by
  unfold settledMove
  split
  · exact sameInhibits_settleTarget ..
  · exact .refl _

/-- The target in force once a move has ended (R51). -/
def forceAfter (m : MoveRec) (d : Disposition) (c : Crusher) : Nat := if GoodEnd d then (reached m c).tf else c.tf

theorem crusher_settledMove_tf : ((settledMove ev i m d).crusher i).tf = forceAfter m d (ev.crusher i) := by
  obtain ⟨f, hf⟩ := slot_settledMove (ev := ev) (i := i) (m := m) d
  rw [Ev.crusher, hf, forceAfter]
  split <;> rfl

/-- What the closing of a move raises: its final reply and its MOVE_END notice. -/
theorem closedMove_raises : (closedMove ev i m d r).replies =
      ev.replies ++ finalOf m.entry i d r (.moveEnded m.applied (forceAfter m d (ev.crusher i)))
    ∧ (closedMove ev i m d r).notices = (settledMove ev i m d).notices
      ++ [⟨ev.s.lineClock, some i, .moveEnd m.entry.kind d r m.entry.origin m.entry.tag (forceAfter m d (ev.crusher i))⟩] := by
  have htf : (((settledMove ev i m d).modCrusher i (fun c => { c with move := none })).crusher i).tf = forceAfter m d (ev.crusher i) := by
    rw [crusher_modCrusher]; exact crusher_settledMove_tf d
  have hclock : (settledMove ev i m d).s.clock = ev.s.clock := by
    have htended : Tended i ev (stoppedMove ev i) :=
      ((Tended.refl i ev).stopMotion.lowerLinked .drain).ite (p := ((ev.stopMotion i).slot i).kind = .jaw) (Tended.refl i ev).stopMotion
    exact ((htended.settleTarget m).ite (p := GoodEnd d) htended).clock
  unfold closedMove
  dsimp only
  rw [htf]
  refine ⟨?_, ?_⟩
  · show (Ev.entryFinal ..).replies = _
    rw [entryFinal_replies, Ev.modCrusher_replies, settledMove_replies]
  · unfold Ev.moveEndNotice Ev.notify
    rw [crusher_entryFinal, htf]
    simp [State.lineClock, hclock, entryFinal_notices]

variable (hm : (ev.crusher i).move = some m) (hout : (ev.crusher i).motion.inEpisode = false)
include hm hout

theorem slot_finishMove : ∃ f, (ev.finishMove i d r).1.slot i = { (ev.slot i).command ev.now .hold with
    crusher := { (if GoodEnd d then reached m (ev.slot i).crusher else (ev.slot i).crusher).stopMoveTimers with motion := .idle, move := none }
    conds := if GoodEnd d then wrapConds m (ev.slot i) else (ev.slot i).conds
    feeder := f } := by
  obtain ⟨f, hf⟩ := slot_settledMove (ev := ev) (i := i) (m := m) d
  refine ⟨f, ?_⟩
  have hclosed : (closedMove ev i m d r).slot i = ((settledMove ev i m d).modCrusher i (fun c => { c with move := none })).slot i := by
    unfold closedMove
    rw [show ∀ (ev : Ev) (e : Entry), (ev.moveEndNotice i e d r).slot i = ev.slot i from fun _ _ => rfl]
    exact congrArg (fun s : State => s.slots.get i) (by simp)
  rw [finishMove_closed hm hout, Ev.setMotion, slot_modCrusher, slot_changeItemEnd _ _ _ (itemState_terminal d), hclosed,
    slot_modCrusher, hf]

theorem driver_finishMove : ((ev.finishMove i d r).1.slot i).driver.cmd = .hold ∧ ((ev.finishMove i d r).1.slot i).driver.out = none := by
  obtain ⟨f, hf⟩ := slot_finishMove d r hm hout
  rw [hf]
  exact Slot.command_hold ..

/-- Its final reply is raised ahead of what the line change unit raises (R51, R144). -/
theorem finishMove_replies : ∃ rs, (ev.finishMove i d r).1.replies =
      ev.replies ++ finalOf m.entry i d r (.moveEnded m.applied (forceAfter m d (ev.crusher i))) ++ rs
    ∧ ∀ x ∈ rs, x.immediate = false := by
  obtain ⟨rs, hrs, hfinal⟩ := (spared_changeItemEnd (closedMove ev i m d r) m.entry.changeId i d.itemState r).finals
  rw [finishMove_closed hm hout]
  exact ⟨rs, hrs.trans (by rw [(closedMove_raises d r).1]), hfinal⟩

/-- And so is its MOVE_END notice, behind those of the drain and the recall stack. -/
theorem finishMove_notices (hrun : NoRunChange ev) : ∃ mid rest, (ev.finishMove i d r).1.notices = ev.notices ++ mid
      ++ ⟨ev.s.lineClock, some i, .moveEnd m.entry.kind d r m.entry.origin m.entry.tag (forceAfter m d (ev.crusher i))⟩ :: rest
    ∧ Offered (if GoodEnd d then 2 else 1) mid := by
  obtain ⟨mid, hmid, hoffer⟩ := settledMove_offered (i := i) (m := m) d hrun
  obtain ⟨rest, hrest⟩ := (spared_changeItemEnd (closedMove ev i m d r) m.entry.changeId i d.itemState r).heard
  rw [finishMove_closed hm hout]
  exact ⟨mid, rest, hrest.symm.trans (by rw [(closedMove_raises d r).2, hmid]; simp), hoffer⟩

/-! At the ports, where the events before are the slot's work of the state `s₀`. -/

section
variable {s₀ : State} {q : Port} (ht : Tended i (Ev.of s₀) ev) (hp : s₀.phase = .running) (hq : s₀.enabled q = true)
include ht hp hq

theorem tx_finishMove (hlen : (s₀.ports.get q).tx.length + (ev.replies.filter (fun x => x.port == q)).length + 1 ≤ 64) :
    (s₀.ports.get q).tx ++ ((ev.replies.filter (fun x => x.port == q)).map (·.reply)
        ++ m.entry.finalTo i q d r (.moveEnded m.applied (forceAfter m d (ev.crusher i))))
      <+: ((ev.finishMove i d r).1.commit.ports.get q).tx := by
  obtain ⟨rs, hreplies, hfinal⟩ := finishMove_replies d r hm hout
  have ht' := ht.finishMove d r
  have hlast := finalOf_filter_length m.entry i q d r (.moveEnded m.applied (forceAfter m d (ev.crusher i)))
  have htx := commit_tx_prefix (ht'.phase.trans hp) ((ht'.enabled q).trans hq) hreplies hfinal (by
    rw [ht'.ports, List.filter_append, List.length_append]
    exact Nat.le_trans (by simp only [Ev.of_s]; omega) hlen)
  rw [ht'.ports, List.filter_append, List.map_append, finalOf_filter] at htx
  exact htx

/-- Of the three places a move end may need, one is for the notice of a reason lowered, and one for HISTORY_WRAP. -/
theorem notices_finishMove {k : Nat} (hrun : NoRunChange ev) (hoffered : Offered k ev.notices) (hsubs : (s₀.ports.get q).subs = NoticeSet.every)
    (hlen : (s₀.ports.get q).notices.length + (k + (if GoodEnd d then 2 else 1) + 1) ≤ 16) :
    ∃ mid rest, ((ev.finishMove i d r).1.commit.ports.get q).notices = (s₀.ports.get q).notices ++ ev.notices ++ mid
      ++ ⟨s₀.lineClock, some i, .moveEnd m.entry.kind d r m.entry.origin m.entry.tag (forceAfter m d (ev.crusher i))⟩ :: rest := by
  obtain ⟨mid, rest, hnotices, hmid⟩ := finishMove_notices d r hm hout hrun
  have ht' := ht.finishMove d r
  have hclock : ev.s.lineClock = s₀.lineClock := by unfold State.lineClock; rw [ht.clock]; rfl
  rw [hclock] at hnotices
  have hall := (hoffered.append hmid).append (offered_single (n := ⟨s₀.lineClock, some i,
    .moveEnd m.entry.kind d r m.entry.origin m.entry.tag (forceAfter m d (ev.crusher i))⟩) (fun _ => rfl))
  have hjoined := commit_notices_prefix (ht'.phase.trans hp) ((ht'.enabled q).trans hq) (hnotices.trans (List.append_cons ..))
    (by rw [ht'.ports]; exact hsubs) (fun n hn => hall.2 n hn q) (by rw [ht'.ports]; exact (Nat.add_le_add_left hall.1 _).trans hlen)
  rw [ht'.ports] at hjoined
  obtain ⟨more, hmore⟩ := hjoined
  exact ⟨mid, more, by rw [← hmore]; simp⟩

end

theorem onLinked_finishMove (hjaw : (ev.slot i).kind = .jaw) :
    OnLinked (ev.finishMove i d r).1.s i (fun f => f.inhibits.drain = false) := by
  have hclosed : SameInhibits (settledMove ev i m d) (closedMove ev i m d r) :=
    ((SameInhibits.modCrusher ..).trans (.of_spared (spared_entryFinal ..))).trans (.of_spared (spared_notify ..))
  have hall : SameInhibits (stoppedMove ev i) (ev.finishMove i d r).1 := by
    rw [finishMove_closed hm hout]
    exact (((sameInhibits_settledMove d).trans hclosed).trans (.of_spared (spared_changeItemEnd ..))).trans
      (.modCrusher _ i (fun c => { c with motion := .idle }))
  exact hall.onLinked (p := fun x => x.drain = false) (onLinked_stoppedMove ev i hjaw)

theorem finishMove_dirty (hgood : GoodEnd d) : (ev.finishMove i d r).1.s.isDirty (.wear i) = true := by
  have hsettled : (settledMove ev i m d).s.isDirty (.wear i) = true := by
    rw [settledMove, if_pos hgood]; exact settleTarget_dirty ..
  have hclosed : (closedMove ev i m d r).s.isDirty (.wear i) = true :=
    (spared_notify ..).dirty _ ((spared_entryFinal ..).dirty _ hsettled)
  rw [finishMove_closed hm hout]
  exact (spared_changeItemEnd ..).dirty _ hclosed

end

/-! ### A slot that stands IDLE with nothing to start (R41, R59, R82) -/

theorem check_nothing {ev : Ev} {i : SlotId} (hqueue : (ev.slot i).crusher.queue = []) (hblock : (ev.slot i).crusher.wearBlock = false)
    (htrim : NoTrim (ev.slot i)) (trim : Bool) : ev.check i trim = ev := by
  have hstart : ev.canStart i = false := by simp [Ev.canStart, hqueue]
  have hdue : ev.trimDue i = false := by
    rw [Bool.eq_false_iff]
    intro h
    obtain ⟨hkind, hauto, hwear, -⟩ := (trimDue_iff ev i).mp h
    rcases htrim with h | h | ⟨hstep, hlow⟩
    · rw [hauto] at h; cases h
    · exact h hkind
    · omega
  unfold Ev.check Ev.startCheck
  simp [Ev.crusher, hblock, hstart, hdue]

/-- The start check behind the end of a move at a quiet slot (R51 step 8). -/
theorem follow_finishMove {ev : Ev} {i : SlotId} {m : MoveRec} (d : Disposition) (r : Reason) (hm : (ev.crusher i).move = some m)
    (hout : (ev.crusher i).motion.inEpisode = false) (hquiet : Quiet (ev.slot i)) :
    Ev.follow (ev.finishMove i d r) i = (ev.finishMove i d r).1 := by
  obtain ⟨f, hf⟩ := slot_finishMove d r hm hout
  obtain ⟨hqueue, hblock, htrim⟩ := hquiet
  unfold Ev.follow
  split
  · rfl
  · refine check_nothing ?_ ?_ ?_ _ <;> rw [hf]
    · by_cases hgood : GoodEnd d <;> simp [hgood, reached, Crusher.stopMoveTimers, hqueue]
    · by_cases hgood : GoodEnd d <;> simp [hgood, reached, Crusher.stopMoveTimers, hblock]
    · by_cases hgood : GoodEnd d
      · refine htrim.imp id (Or.imp id fun ⟨hstep, _⟩ => ⟨hstep, ?_⟩)
        simp only [hgood, if_true, reached, Crusher.stopMoveTimers, Slot.command]
        omega
      · simpa [hgood, Crusher.stopMoveTimers, Slot.command] using htrim

end Sys2Proof.Proofs
end


section
/-! PROOF. The expiries of the motion timers (R43, R45, R46, R48, R51). -/

namespace Sys2Proof.Proofs

open Sys2Proof Sys2Proof.Machine

set_option Elab.async false

/-! ### Summaries with a condition of class FAULT (R153) -/

theorem mem_every (k : Cond) : k ∈ Cond.every := by cases k <;> decide

theorem summary_fault {c : CondSet} {k : Cond} (hk : k.cls = .fault) (h : c.mem k = true) : c.summary = .fault := by
  have hany : Cond.every.any (fun k => c.mem k && k.cls == .fault) = true :=
    List.any_eq_true.mpr ⟨k, mem_every k, by simp [h, hk]⟩
  rw [CondSet.summary, if_pos hany]

theorem worse_fault (a : Summary) : a.worse .fault = .fault ∧ Summary.worse .fault a = .fault := by cases a <;> decide

theorem lineSummary_fault {s : State} {i : SlotId} (h : (s.slots.get i).summary = .fault) : s.lineSummary = .fault := by
  have hstays : ∀ l : List SlotId, l.foldl (fun m i => m.worse (s.slots.get i).summary) Summary.fault = .fault := by
    intro l
    induction l with
    | nil => rfl
    | cons j l ih => rw [List.foldl_cons, (worse_fault _).2]; exact ih
  have hmeets : ∀ (l : List SlotId) (m : Summary), i ∈ l → l.foldl (fun m i => m.worse (s.slots.get i).summary) m = .fault := by
    intro l
    induction l with
    | nil => exact fun m hi => absurd hi List.not_mem_nil
    | cons j l ih =>
      intro m hi
      rw [List.foldl_cons]
      rcases List.mem_cons.mp hi with rfl | hi
      · rw [h, (worse_fault m).1]; exact hstays l
      · exact ih _ hi
  exact hmeets _ _ (mem_slotIds i)

/-- A fault that was absent tells of itself with the set it joins (R152, R157). -/
theorem record_fault_notices {ev : Ev} {i : SlotId} {k : Cond} (hk : k.cls = .fault) : (ev.record i k).notices = ev.notices ++
    if (ev.slot i).conds.mem k then []
    else [⟨ev.s.lineClock, some i, .condition k none ((ev.slot i).conds.insert k) (some .fault) .fault⟩] := by
  cases hmem : (ev.slot i).conds.mem k with
  | true => rw [record_present_notices hmem]; simp
  | false =>
    have hslot : ((ev.record i k).slot i).summary = .fault := by
      rw [slot_record]; exact summary_fault hk (CondSet.mem_insert_self ..)
    have hmaskable : ¬ k.cls = .maskable := by rw [hk]; decide
    rw [record_absent_notices hmem]
    dsimp only
    rw [hslot, lineSummary_fault (s := (ev.record i k).s) hslot, slot_record, if_neg hmaskable]
    rfl

/-! ### Events of an expiry -/

section
variable {s s₀ : State} {i : SlotId}

theorem worked_reach (l : Option SlotId) (d : Nat) : Worked i l s (s.reach d) := ⟨rfl, fun _ h => h, fun _ => .refl ..⟩

/-- The end of an event of a crusher's work, with no line change standing. -/
theorem onlyCrusher_tended {ev : Ev} (hw : Worked i (s.slots.get i).cp.linkedFeeder s s₀) (ht : Tended i (Ev.of s₀) ev)
    (hc : s.change = none) : OnlyCrusher s ev.commit i := by
  have hworked := ht.alone (show s₀.change = none by rw [hw.rest]; exact hc)
  rw [show ((Ev.of s₀).slot i).cp = (s.slots.get i).cp from hw.cp i] at hworked
  exact onlyCrusher_commit (hw.trans hworked)

theorem exec_expiry {f : Ev → Ev} {d : Nat} {t : Timer} (hp : s.phase = .running) (ht : t = some d) :
    s.expire t f = .next (f (Ev.of (s.reach d))).commit := by
  subst ht
  simp only [State.expire, whenRunning]
  exact if_pos hp

/-- What stands at a crusher once the expiry of a timer has failed its move: the fault `k`, and the move's end with the reason `why`. -/
def FailedMove (s t : State) (i : SlotId) (m : MoveRec) (k : Cond) (why : Reason) (now : Nat) : Prop :=
  let x := s.slots.get i
  let c := x.crusher
  (t.slots.get i).crusher =
      { c with motion := .idle, move := none, travel := none, settle := none, suspension := none, drainLimit := none,
               fixedDrain := none }
    ∧ (t.slots.get i).driver.cmd = .hold ∧ (t.slots.get i).driver.out = none
    ∧ (t.slots.get i).conds = x.conds.insert k
    ∧ (x.kind = .jaw → OnLinked t i (fun f => f.inhibits.drain = false))
    ∧ (∀ q, s.enabled q = true → (s.ports.get q).tx.length < 64 →
      (s.ports.get q).tx ++ m.entry.finalTo i q .failed why (.moveEnded m.applied c.tf) <+: (t.ports.get q).tx)
    ∧ (∀ q, s.enabled q = true → (s.ports.get q).subs = NoticeSet.every → (s.ports.get q).notices.length ≤ 13 →
      ∃ mid rest, (t.ports.get q).notices = (s.ports.get q).notices
        ++ (if x.conds.mem k then [] else [⟨now, some i, .condition k none (x.conds.insert k) (some .fault) .fault⟩])
        ++ mid ++ ⟨now, some i, .moveEnd m.entry.kind .failed why m.entry.origin m.entry.tag c.tf⟩ :: rest)
    ∧ (s.change = none → OnlyCrusher s t i)

/-- An event that has done nothing but hold the drive of the slot. -/
structure AtExpiry (s : State) (i : SlotId) (d : Nat) (ev : Ev) : Prop where
  tended : Tended i (Ev.of (s.reach d)) ev
  slot : (ev.slot i) = { s.slots.get i with driver := (ev.slot i).driver }
  notices : ev.notices = []
  replies : ev.replies = []

theorem AtExpiry.start (s : State) (i : SlotId) (d : Nat) : AtExpiry s i d (Ev.of (s.reach d)) := ⟨.refl .., rfl, rfl, rfl⟩

theorem AtExpiry.held (s : State) (i : SlotId) (d : Nat) : AtExpiry s i d ((Ev.of (s.reach d)).holdDrive i) :=
  ⟨(Tended.refl ..).holdDrive, by rw [slot_holdDrive]; rfl, rfl, rfl⟩

theorem AtExpiry.recorded {d : Nat} {ev : Ev} (h : AtExpiry s i d ev) {k : Cond} (hk : k.cls = .fault) :
    (ev.record i k).slot i = { s.slots.get i with driver := (ev.slot i).driver, conds := (s.slots.get i).conds.insert k }
      ∧ (ev.record i k).notices = if (s.slots.get i).conds.mem k then []
        else [⟨max s.clock d / 1000, some i, .condition k none ((s.slots.get i).conds.insert k) (some .fault) .fault⟩] := by
  have hclock : ev.s.lineClock = max s.clock d / 1000 := by unfold State.lineClock; rw [h.tended.clock]; rfl
  refine ⟨by rw [slot_record, h.slot], ?_⟩
  rw [record_fault_notices hk, h.notices, hclock, h.slot]
  rfl

/-- The fault is recorded and the move fails (R43, R46, R48, R51). -/
theorem failedMove_finish {d : Nat} {m : MoveRec} {k : Cond} {why : Reason} {ev : Ev} (h : AtExpiry s i d ev) (hp : s.phase = .running)
    (hm : (s.slots.get i).crusher.move = some m) (hout : (s.slots.get i).crusher.motion.inEpisode = false)
    (hquiet : Quiet (s.slots.get i)) (hk : k.cls = .fault) :
    FailedMove s (Ev.follow ((ev.record i k).finishMove i .failed why) i).commit i m k why (max s.clock d / 1000) := by
  obtain ⟨hslot, hfirst⟩ := h.recorded hk
  have htended := h.tended.record k
  have hcrusher : (ev.record i k).crusher i = (s.slots.get i).crusher := by rw [Ev.crusher, hslot]
  have hm' : ((ev.record i k).crusher i).move = some m := by rw [hcrusher]; exact hm
  have hout' : ((ev.record i k).crusher i).motion.inEpisode = false := by rw [hcrusher]; exact hout
  have hbad : ¬ GoodEnd Disposition.failed := by decide
  have htf : forceAfter m .failed ((ev.record i k).crusher i) = (s.slots.get i).crusher.tf := by
    rw [forceAfter, if_neg hbad, hcrusher]
  have hoffered : Offered 1 (ev.record i k).notices := by
    rw [hfirst]
    split
    · exact offered_nil 1
    · exact offered_single (fun _ => rfl)
  have hrun : NoRunChange (ev.record i k) := by
    intro n hn f
    rw [hfirst] at hn
    split at hn
    · exact absurd hn List.not_mem_nil
    · rw [List.mem_singleton.mp hn]; rfl
  obtain ⟨f, hf⟩ := slot_finishMove .failed why hm' hout'
  rw [if_neg hbad, if_neg hbad, hslot] at hf
  rw [follow_finishMove _ _ hm' hout' (by rw [hslot]; exact hquiet)]
  refine ⟨?crusher, ?cmd, ?out, ?conds, ?linked, fun q hq hlen => ?tx, fun q hq hsubs hlen => ?notices, ?frame⟩
  case crusher => rw [slot_commit, hf]; rfl
  case cmd => rw [slot_commit]; exact (driver_finishMove .failed why hm' hout').1
  case out => rw [slot_commit]; exact (driver_finishMove .failed why hm' hout').2
  case conds => rw [slot_commit, hf]
  case linked =>
    intro hjaw
    exact (onLinked_commit ..).mpr (onLinked_finishMove .failed why hm' hout' (by rw [hslot]; exact hjaw))
  case tx =>
    have hnone : (ev.record i k).replies = [] := by rw [Ev.record_replies, h.replies]
    have htx := tx_finishMove .failed why hm' hout' htended hp hq (by rw [hnone]; exact hlen)
    rw [hnone, htf] at htx
    exact htx
  case notices =>
    obtain ⟨mid, rest, hnotices⟩ := notices_finishMove .failed why hm' hout' htended hp hq hrun hoffered hsubs (Nat.add_le_add_right hlen 3)
    rw [htf, hfirst] at hnotices
    exact ⟨mid, rest, hnotices⟩
  case frame => exact onlyCrusher_tended (worked_reach _ d) (htended.finishMove ..)

end

/-- Settles O37: each expiry records its fault and fails the move, as `failedMove_finish` says. -/
theorem expiriesFailTheMove : Obligations.ExpiriesFailTheMove := by
  unfold Obligations.ExpiriesFailTheMove
  intro s i d m x c now fails hp hm hquiet
  refine ⟨fun hmotion htimer => ?_, fun hmotion htimer => ?_, fun hmotion htimer => ?_⟩
  · have hout : c.motion.inEpisode = false := by rcases hmotion with h | h | h <;> rw [h] <;> rfl
    have hstays : c.motion ≠ .recovering := by rcases hmotion with h | h | h <;> rw [h] <;> decide
    refine ⟨_, ?_, failedMove_finish (.held s i d) hp hm hout hquiet rfl⟩
    show execTravelExpiry i s = _
    rw [execTravelExpiry, if_neg hstays, exec_expiry hp htimer]
    have hsame : ((Ev.of (s.reach d)).crusher i).motion = c.motion := rfl
    rcases hmotion with h | h | h <;> simp only [Ev.travelOut, hsame, h]
  · have hout : c.motion.inEpisode = false := by rw [hmotion]; rfl
    refine ⟨_, ?_, failedMove_finish (.start s i d) hp hm hout hquiet rfl⟩
    show execSuspensionExpiry i s = _
    have hsame : ((Ev.of (s.reach d)).crusher i).motion = .suspended := hmotion
    rw [execSuspensionExpiry, exec_expiry hp htimer, Ev.suspensionOut, hsame]
  · have hout : c.motion.inEpisode = false := by rw [hmotion]; rfl
    refine ⟨_, ?_, failedMove_finish (.start s i d) hp hm hout hquiet rfl⟩
    show execDrainLimitExpiry i s = _
    have hsame : ((Ev.of (s.reach d)).crusher i).motion = .draining := hmotion
    rw [execDrainLimitExpiry, exec_expiry hp htimer, Ev.drainLimitOut, hsame]

end Sys2Proof.Proofs
end


section
/-! PROOF. The drive of a move and the settle expiry (R44, R45, R51, R57). -/

namespace Sys2Proof.Proofs

open Sys2Proof Sys2Proof.Machine

set_option Elab.async false

/-! ### The drive toward a target, as a change of one slot (R44, R45) -/

/-- A slot that drives toward a target from a position outside its deadband. -/
def driving (now p target : Nat) (d : Dir) (x : Slot) : Slot := x.command now (x.moveCommand p target d)

/-- A slot that has arrived and waits for its settle timer. -/
def arriving (now : Nat) (x : Slot) : Slot :=
  { x.command now .hold with crusher := { x.crusher with motion := .settling, settle := some (now + x.cp.settle) } }

section
variable {ev : Ev} {i : SlotId} {m : MoveRec} {p : Nat}

theorem moveStep_driving (hm : (ev.crusher i).move = some m) {d : Dir} (hd : toward p m.target (ev.slot i).cp.db = .drive d) :
    ev.moveStep i p = ev.modSlot i (driving ev.now p m.target d) := by
  rw [moveStep_drive hm hd, Ev.driveTo, setDrive_eq]
  exact evModSlot_congr rfl

theorem moveStep_arriving (hm : (ev.crusher i).move = some m) (ha : toward p m.target (ev.slot i).cp.db = .arrived) :
    ev.moveStep i p = ev.modSlot i (arriving ev.now) := by
  rw [moveStep_arrived hm ha, Ev.holdDrive, setDrive_eq, Ev.setMotion]
  simp only [modCrusher_eq, evModSlot_modSlot]
  exact evModSlot_congr rfl

theorem enterMoving_valid (hvalid : (ev.slot i).position.valid = true) (hlast : (ev.slot i).position.last = some p) :
    ev.enterMoving i = ((ev.setMotion i .moving).moveStep i p, none) := by
  have hvalid' : ((ev.setMotion i .moving).slot i).position.valid = true := by rw [Ev.setMotion, slot_modCrusher]; exact hvalid
  have hlast' : ((ev.setMotion i .moving).slot i).position.last = some p := by rw [Ev.setMotion, slot_modCrusher]; exact hlast
  simp only [Ev.enterMoving, hvalid', hlast']

variable (hm : (ev.crusher i).move = some m) (hvalid : (ev.slot i).position.valid = true) (hlast : (ev.slot i).position.last = some p)
include hm hvalid hlast

theorem enterMoving_driving {d : Dir} (hd : toward p m.target (ev.slot i).cp.db = .drive d) : ev.enterMoving i =
    (ev.modSlot i (fun x => driving ev.now p m.target d { x with crusher := { x.crusher with motion := .moving } }), none) := by
  have hm' : ((ev.setMotion i .moving).crusher i).move = some m := by rw [crusher_setMotion]; exact hm
  rw [enterMoving_valid hvalid hlast, moveStep_driving hm' (by rw [Ev.setMotion, slot_modCrusher]; exact hd), Ev.setMotion, modCrusher_eq,
    evModSlot_modSlot]
  rfl

theorem enterMoving_arriving (ha : toward p m.target (ev.slot i).cp.db = .arrived) :
    ev.enterMoving i = (ev.modSlot i (arriving ev.now), none) := by
  have hm' : ((ev.setMotion i .moving).crusher i).move = some m := by rw [crusher_setMotion]; exact hm
  rw [enterMoving_valid hvalid hlast, moveStep_arriving hm' (by rw [Ev.setMotion, slot_modCrusher]; exact ha), Ev.setMotion, modCrusher_eq,
    evModSlot_modSlot]
  rfl

end

/-! ### The settle expiry (R45) -/

theorem follow_none (ev : Ev) (i : SlotId) : Ev.follow (ev, none) i = ev := rfl

/-- A move that ends within DB of its target ends DONE, or DONE_ADJUSTED with the first check that adjusted it (R45). -/
theorem finishDone_eq {ev : Ev} {i : SlotId} {m : MoveRec} (hm : (ev.crusher i).move = some m) :
    ev.finishDone i = ev.finishMove i (if m.adjusted = none then .done else .doneAdjusted) (m.adjusted.getD .noReason) := by
  unfold Ev.finishDone
  rw [hm, Option.bind_some]
  cases m.adjusted <;> rfl

/-- The event of a settle expiry in SETTLING. -/
def settledAt (s : State) (i : SlotId) (d : Nat) : Ev := (Ev.of (s.reach d)).modCrusher i (fun c => { c with settle := none })

section
variable {s : State} {i : SlotId} {d p : Nat} {m : MoveRec}

theorem slot_settledAt : (settledAt s i d).slot i = { s.slots.get i with crusher := { (s.slots.get i).crusher with settle := none } } :=
  slot_modCrusher ..

theorem tended_settledAt : Tended i (Ev.of (s.reach d)) (settledAt s i d) := (Tended.refl i _).modCrusher _

theorem exec_settle (hp : s.phase = .running) (hmotion : (s.slots.get i).crusher.motion = .settling)
    (htimer : (s.slots.get i).crusher.settle = some d) (hm : (s.slots.get i).crusher.move = some m)
    (hlast : (s.slots.get i).position.last = some p) : exec (.settleExpiry i) s =
      .next (if toward p m.target (s.slots.get i).cp.db = .arrived then Ev.follow ((settledAt s i d).finishDone i) i
        else Ev.follow ((settledAt s i d).enterMoving i) i).commit := by
  have hmotion' : ((settledAt s i d).crusher i).motion = .settling := by rw [Ev.crusher, slot_settledAt]; exact hmotion
  have hsettled : (Ev.of (s.reach d)).settleOut i = (settledAt s i d).moveSettled i := by
    simp only [Ev.settleOut]
    rw [show (((Ev.of (s.reach d)).modCrusher i (fun c => { c with settle := none })).crusher i).motion = .settling from hmotion']
    rfl
  show execSettleExpiry i s = _
  rw [execSettleExpiry, exec_expiry hp htimer, hsettled]
  simp only [Ev.moveSettled, slot_settledAt, hm, hlast]

/-- Settles O36: within DB the move ends as the lemmas about `finishMove` say, outside it the slot drives again. -/
theorem settlingEndsTheMove : Obligations.SettlingEndsTheMove := by
  unfold Obligations.SettlingEndsTheMove
  intro s i d p m x c now hp hmotion htimer hm hlast
  have hexec := exec_settle hp hmotion htimer hm hlast
  have hm' : ((settledAt s i d).crusher i).move = some m := by rw [Ev.crusher, slot_settledAt]; exact hm
  refine ⟨fun harrived hquiet => ?_, fun e hdrive hvalid => ?_⟩
  · intro gap tf disp why
    have hgood : GoodEnd disp := by
      by_cases h : m.adjusted = none
      · exact .inl (if_pos h)
      · exact .inr (if_neg h)
    have hout : ((settledAt s i d).crusher i).motion.inEpisode = false := by
      rw [Ev.crusher, slot_settledAt, show ({ c with settle := none } : Crusher).motion = .settling from hmotion]; rfl
    have htf : forceAfter m disp ((settledAt s i d).crusher i) = tf := by
      rw [forceAfter, if_pos hgood, Ev.crusher, slot_settledAt]; rfl
    have htended := tended_settledAt (s := s) (i := i) (d := d)
    obtain ⟨f, hf⟩ := slot_finishMove disp why hm' hout
    rw [if_pos hgood, if_pos hgood, slot_settledAt] at hf
    rw [if_pos harrived, finishDone_eq hm', follow_finishMove _ _ hm' hout (by rw [slot_settledAt]; exact hquiet)] at hexec
    refine ⟨_, hexec, ?crusher, ?cmd, ?outs, ?conds, ?dirty, ?linked, fun q hq hlen => ?tx, fun q hq hsubs hlen => ?notices, ?frame⟩
    case crusher => rw [slot_commit, hf]; rfl
    case cmd => rw [slot_commit]; exact (driver_finishMove disp why hm' hout).1
    case outs => rw [slot_commit]; exact (driver_finishMove disp why hm' hout).2
    case conds => rw [slot_commit, hf]; rfl
    case dirty =>
      have hdirty := finishMove_dirty disp why hm' hout hgood
      unfold State.isDirty at hdirty ⊢
      rw [Ev.commit_dirty]
      exact hdirty
    case linked =>
      intro hjaw
      exact (onLinked_commit ..).mpr (onLinked_finishMove disp why hm' hout (by rw [slot_settledAt]; exact hjaw))
    case tx =>
      have htx := tx_finishMove disp why hm' hout htended hp hq hlen
      rw [htf] at htx
      exact htx
    case notices =>
      obtain ⟨mid, rest, hnotices⟩ := notices_finishMove disp why hm' hout htended hp hq (k := 0) (fun n hn => absurd hn List.not_mem_nil)
        (offered_nil 0) hsubs (by rw [if_pos hgood]; exact Nat.add_le_add_right hlen 3)
      rw [htf] at hnotices
      rw [show (if m.adjusted = none then Disposition.done else .doneAdjusted) = disp from rfl, hnotices]
      exact List.mem_append_right _ (List.mem_cons_self ..)
    case frame => exact onlyCrusher_tended (worked_reach _ d) (htended.finishMove ..)
  · have hmoving := enterMoving_driving (ev := settledAt s i d) (p := p) hm' (by rw [slot_settledAt]; exact hvalid)
      (by rw [slot_settledAt]; exact hlast) (by rw [slot_settledAt]; exact hdrive)
    rw [if_neg (by rw [hdrive]; simp), hmoving, follow_none] at hexec
    rw [hexec, Ev.commit_silent _ rfl rfl]
    refine congrArg Host.Outcome.next ?_
    rw [settledAt, modCrusher_eq, evModSlot_modSlot, Ev.modSlot_s]
    exact modSlot_congr rfl

end

end Sys2Proof.Proofs
end


section
/-! PROOF. Position samples, at rest and in MOVING (R44, R45, R47, R48, R163, R164). -/

namespace Sys2Proof.Proofs

open Sys2Proof Sys2Proof.Machine

set_option Elab.async false

/-! ### A reading that becomes invalid in MOVING (R47) -/

/-- The event once POSITION_INVALID is recorded, with the drive at HOLD and the settle timer stopped. -/
def lostReading (ev : Ev) (i : SlotId) : Ev := ((ev.record i .positionInvalid).holdDrive i).modCrusher i (fun c => { c with settle := none })

section
variable {ev : Ev} {i : SlotId}

theorem slot_lostReading : (lostReading ev i).slot i = { (ev.slot i).command ev.now .hold with
    conds := (ev.slot i).conds.insert .positionInvalid, crusher := { (ev.slot i).crusher with settle := none } } := by
  rw [lostReading, slot_modCrusher, slot_holdDrive, slot_record, now_record]
  rfl

theorem positionLost_masked (h : (ev.slot i).mask.mem .positionInvalid = true) :
    ev.positionLost i = ((lostReading ev i).addCause i .sensor, none) := by
  have hmask : (lostReading ev i).masked i .positionInvalid = true := by rw [Ev.masked, slot_lostReading]; exact h
  show (if (lostReading ev i).masked i .positionInvalid = true then ((lostReading ev i).addCause i .sensor, none)
    else (lostReading ev i).finishMove i .failed .sensor) = _
  rw [if_pos hmask]

theorem positionLost_unmasked (h : (ev.slot i).mask.mem .positionInvalid = false) :
    ev.positionLost i = (lostReading ev i).finishMove i .failed .sensor := by
  have hmask : (lostReading ev i).masked i .positionInvalid = false := by rw [Ev.masked, slot_lostReading]; exact h
  exact if_neg (Bool.eq_false_iff.mp hmask)

end

/-! ### The event of a sample (R163, R164) -/

theorem good_iff (a : PositionAnswer) :
    a.good = true ↔ a.start = true ∧ (ones a.bits + if a.parity then 1 else 0) % 2 = 0 ∧ a.status = false := by
  have hparity : a.parity.toNat = if a.parity then 1 else 0 := by cases a.parity <;> rfl
  simp only [PositionAnswer.good, hparity, Bool.and_eq_true, beq_iff_eq, Bool.not_eq_true', and_assoc]

/-- The part once the channel has its new reading. -/
def samplePlaced (s : State) (i : SlotId) (ch : PosChannel) : State :=
  (s.reachSample (s.slots.get i).position.sampledAt 20).modSlot i (fun x => { x with position := ch })

section
variable {s : State} {i : SlotId} {a : PositionAnswer}

theorem samplePlaced_slot (ch : PosChannel) : (Ev.of (samplePlaced s i ch)).slot i = { s.slots.get i with position := ch } := by
  rw [slot_of, samplePlaced, State.modSlot_slot_self, reachSample_slots]

theorem exec_position (hp : s.phase = .running) (hk : (s.slots.get i).kind.isCrusher = true) :
    let x := s.slots.get i
    let r := x.position.sample (s.reachSample x.position.sampledAt 20).clock x.cp.inverted a
    exec (.positionSample i a) s = .next ((Ev.of (samplePlaced s i r.1)).positionEvent i r.2).commit := by
  show execPositionSample i a s = _
  rw [execPositionSample, if_pos ⟨hp, hk⟩]
  rfl

/-- A good sample is a reading (R164). -/
theorem exec_position_good (hp : s.phase = .running) (hk : (s.slots.get i).kind.isCrusher = true) (hgood : a.good = true) :
    let x := s.slots.get i
    let p := a.position x.cp.inverted
    exec (.positionSample i a) s = .next (((Ev.of (samplePlaced s i
      ⟨true, 0, some p, some (s.reachSample x.position.sampledAt 20).clock⟩)).retestDrive i).positionReading i p).commit := by
  intro x p
  rw [exec_position hp hk]
  simp only [PosChannel.sample, hgood, if_true]
  cases (s.slots.get i).position.valid <;> rfl

/-- The third bad sample in a row takes the channel to INVALID (R164). -/
theorem exec_position_gone (hp : s.phase = .running) (hk : (s.slots.get i).kind.isCrusher = true) (hgood : a.good = false)
    (hvalid : (s.slots.get i).position.valid = true) (hbad : ¬ (s.slots.get i).position.bad < 2) :
    let x := s.slots.get i
    exec (.positionSample i a) s = .next (((Ev.of (samplePlaced s i
      ⟨false, 3, x.position.last, some (s.reachSample x.position.sampledAt 20).clock⟩)).retestDrive i).positionGone i).commit := by
  intro x
  rw [exec_position hp hk]
  simp only [PosChannel.sample, hgood, hvalid, Bool.false_eq_true, if_false, if_true, if_neg hbad]
  rfl

/-- Any other sample changes the channel alone. -/
theorem exec_position_kept (hp : s.phase = .running) (hk : (s.slots.get i).kind.isCrusher = true) (hgood : a.good = false)
    (h : (s.slots.get i).position.valid = false ∨ (s.slots.get i).position.bad < 2) :
    let c := (s.slots.get i).position
    exec (.positionSample i a) s = .next (samplePlaced s i (if c.valid = false
      then ⟨false, min (c.bad + 1) 3, c.last, some (s.reachSample c.sampledAt 20).clock⟩
      else ⟨true, c.bad + 1, c.last, some (s.reachSample c.sampledAt 20).clock⟩)) := by
  intro c
  rw [exec_position hp hk]
  cases hvalid : (s.slots.get i).position.valid with
  | false =>
    simp only [PosChannel.sample, hgood, hvalid, Bool.false_eq_true, if_false, c, if_true]
    exact congrArg Host.Outcome.next (Ev.commit_silent _ rfl rfl)
  | true =>
    have hbad := h.resolve_left (by rw [hvalid]; decide)
    simp only [PosChannel.sample, hgood, hvalid, Bool.false_eq_true, if_false, if_true, if_pos hbad, c, Bool.true_eq_false]
    exact congrArg Host.Outcome.next (Ev.commit_silent _ rfl rfl)

/-! ### A slot at rest (R164, R167) -/

/-- The part once the driver has re-tested its guard with the new reading. -/
theorem retest_samplePlaced (ch : PosChannel) : (Ev.of (samplePlaced s i ch)).retestDrive i =
    Ev.of ((s.reachSample (s.slots.get i).position.sampledAt 20).modSlot i (fun x => { x with
      position := ch, driver := x.driver.settle (s.reachSample (s.slots.get i).position.sampledAt 20).clock ch })) := by
  unfold Ev.retestDrive Ev.modSlot Ev.onState samplePlaced
  simp only [Ev.of_s, State.modSlot_modSlot]
  rfl

theorem positionReading_rest {ev : Ev} (h : (ev.crusher i).motion = .idle ∨ ∃ b, (ev.crusher i).motion = .blocked b) (p : Nat) :
    ev.positionReading i p = ev ∧ ev.positionGone i = ev := by
  rcases h with h | ⟨b, h⟩ <;> simp only [Ev.positionReading, Ev.positionGone, h, and_self]

theorem crusher_retested (ch : PosChannel) :
    ((Ev.of (samplePlaced s i ch)).retestDrive i).crusher i = (s.slots.get i).crusher := by
  rw [crusher_retestDrive, Ev.crusher, samplePlaced_slot]

/-- A sample at rest (R164). -/
theorem exec_position_rest (hp : s.phase = .running) (hk : (s.slots.get i).kind.isCrusher = true)
    (hrest : (s.slots.get i).crusher.motion = .idle ∨ ∃ b, (s.slots.get i).crusher.motion = .blocked b) :
    let x := s.slots.get i
    let c := x.position
    let s' := s.reachSample c.sampledAt 20
    let heard := fun (ch : PosChannel) => nextState
      (s'.modSlot i (fun x => { x with position := ch, driver := x.driver.settle s'.clock ch }))
    exec (.positionSample i a) s =
      if a.good = true then heard ⟨true, 0, some (a.position x.cp.inverted), some s'.clock⟩
      else if c.valid = false then nextState (samplePlaced s i ⟨false, min (c.bad + 1) 3, c.last, some s'.clock⟩)
      else if c.bad < 2 then nextState (samplePlaced s i ⟨true, c.bad + 1, c.last, some s'.clock⟩)
      else heard ⟨false, 3, c.last, some s'.clock⟩ := by
  intro x c s' heard
  have hrest' : ∀ ch, (((Ev.of (samplePlaced s i ch)).retestDrive i).crusher i).motion = .idle
      ∨ ∃ b, (((Ev.of (samplePlaced s i ch)).retestDrive i).crusher i).motion = .blocked b := by
    intro ch; rw [crusher_retested]; exact hrest
  have hheard : ∀ ch, heard ch = .next ((Ev.of (samplePlaced s i ch)).retestDrive i).commit := by
    intro ch; rw [retest_samplePlaced, Ev.commit_silent _ rfl rfl]; rfl
  cases hgood : a.good with
  | true =>
    rw [if_pos rfl, hheard, exec_position_good hp hk hgood, (positionReading_rest (hrest' _) _).1]
  | false =>
    rw [if_neg Bool.false_ne_true]
    by_cases hvalid : c.valid = false
    · rw [if_pos hvalid, exec_position_kept hp hk hgood (.inl hvalid)]
      exact congrArg (fun ch => Host.Outcome.next (samplePlaced s i ch)) (if_pos hvalid)
    · by_cases hbad : c.bad < 2
      · rw [if_neg hvalid, if_pos hbad, exec_position_kept hp hk hgood (.inr hbad)]
        exact congrArg (fun ch => Host.Outcome.next (samplePlaced s i ch)) (if_neg hvalid)
      · rw [if_neg hvalid, if_neg hbad, hheard, exec_position_gone hp hk hgood (by simpa using hvalid) hbad,
          (positionReading_rest (hrest' _) 0).2]

/-! ### A slot in MOVING (R44, R45, R47) -/

variable {m : MoveRec}

/-- A reading in MOVING (R44, R45). -/
theorem exec_position_moving (hp : s.phase = .running) (hk : (s.slots.get i).kind.isCrusher = true) (hgood : a.good = true)
    (hmotion : (s.slots.get i).crusher.motion = .moving) (hm : (s.slots.get i).crusher.move = some m) :
    let x := s.slots.get i
    let s' := s.reachSample x.position.sampledAt 20
    let now := s'.clock
    let p := a.position x.cp.inverted
    let seen := fun (x : Slot) =>
      let ch : PosChannel := ⟨true, 0, some p, some now⟩
      { x with position := ch, driver := x.driver.settle now ch }
    (∀ d, toward p m.target x.cp.db = .drive d →
        exec (.positionSample i a) s = .next (s'.modSlot i (fun x => driving now p m.target d (seen x))))
      ∧ (toward p m.target x.cp.db = .arrived → exec (.positionSample i a) s = .next (s'.modSlot i (fun x => arriving now (seen x)))) := by
  intro x s' now p seen
  have hexec : exec (.positionSample i a) s = _ := exec_position_good hp hk hgood
  have hmotion' : (((Ev.of (samplePlaced s i ⟨true, 0, some p, some now⟩)).retestDrive i).crusher i).motion = .moving := by
    rw [crusher_retested]; exact hmotion
  have hm' : (((Ev.of (samplePlaced s i ⟨true, 0, some p, some now⟩)).retestDrive i).crusher i).move = some m := by
    rw [crusher_retested]; exact hm
  have hcp : (((Ev.of (samplePlaced s i ⟨true, 0, some p, some now⟩)).retestDrive i).slot i).cp = x.cp := by
    rw [Ev.retestDrive, slot_modSlot, samplePlaced_slot]
  have hstep : ((Ev.of (samplePlaced s i ⟨true, 0, some p, some now⟩)).retestDrive i).positionReading i p
      = ((Ev.of (samplePlaced s i ⟨true, 0, some p, some now⟩)).retestDrive i).moveStep i p := by
    simp only [Ev.positionReading, hmotion']
  rw [hstep] at hexec
  refine ⟨fun d hd => ?_, fun ha => ?_⟩
  · rw [moveStep_driving hm' (by rw [hcp]; exact hd), retest_samplePlaced, Ev.commit_silent _ rfl rfl, Ev.modSlot_s, Ev.of_s,
      State.modSlot_modSlot] at hexec
    exact hexec
  · rw [moveStep_arriving hm' (by rw [hcp]; exact ha), retest_samplePlaced, Ev.commit_silent _ rfl rfl, Ev.modSlot_s, Ev.of_s,
      State.modSlot_modSlot] at hexec
    exact hexec

/-- The part whose channel alone has changed, up to the clock. -/
theorem worked_samplePlaced (l : Option SlotId) (ch : PosChannel) :
    Worked i l (s.modSlot i (fun x => { x with position := ch })) (samplePlaced s i ch) := by
  unfold samplePlaced State.reachSample
  split
  · exact ⟨rfl, fun _ h => h, fun _ => .refl ..⟩
  · exact .refl ..

/-- The reading is lost in MOVING: with POSITION_INVALID masked the move waits for its sensor, else it fails (R47, R48). -/
theorem exec_position_lost (hp : s.phase = .running) (hk : (s.slots.get i).kind.isCrusher = true) (hgood : a.good = false)
    (hmotion : (s.slots.get i).crusher.motion = .moving) (hm : (s.slots.get i).crusher.move = some m)
    (hvalid : (s.slots.get i).position.valid = true) (hbad : (s.slots.get i).position.bad = 2)
    (hquiet : (s.slots.get i).mask.mem .positionInvalid = true ∨ Quiet (s.slots.get i)) :
    let x := s.slots.get i
    let c := x.crusher
    let s' := s.reachSample x.position.sampledAt 20
    let now := s'.clock
    ∃ t, exec (.positionSample i a) s = .next t
      ∧ (t.slots.get i).position = ⟨false, 3, x.position.last, some now⟩
      ∧ (t.slots.get i).conds = x.conds.insert .positionInvalid
      ∧ (s.change = none →
        OnlyCrusher (s.modSlot i (fun x => { x with position := ⟨false, 3, x.position.last, some now⟩ })) t i)
      ∧ (t.slots.get i).driver.cmd = .hold ∧ (t.slots.get i).driver.out = none
      ∧ (x.mask.mem .positionInvalid = true → (t.slots.get i).crusher =
          suspendedBy .sensor ((s'.remaining c.travel).getD 0) (now + x.cp.suspLimit * 1000) c)
      ∧ (x.mask.mem .positionInvalid = false →
        (t.slots.get i).crusher = { c.stopMoveTimers with motion := .idle, move := none }) := by
  intro x c s' now
  let ev := (Ev.of (samplePlaced s i ⟨false, 3, x.position.last, some now⟩)).retestDrive i
  have hslot : ev.slot i = { x with
      position := ⟨false, 3, x.position.last, some now⟩
      driver := x.driver.settle now ⟨false, 3, x.position.last, some now⟩ } := by
    show ((Ev.of (samplePlaced s i _)).retestDrive i).slot i = _
    rw [retest_samplePlaced, slot_of, State.modSlot_slot_self, reachSample_slots]
  have hcrusher : ev.crusher i = c := by rw [Ev.crusher, hslot]
  have hclock : ev.s.clock = now := by
    show ((Ev.of (samplePlaced s i _)).retestDrive i).s.clock = _
    rw [retest_samplePlaced]; rfl
  have htended : Tended i (Ev.of (samplePlaced s i ⟨false, 3, x.position.last, some now⟩)) (Ev.follow (ev.positionLost i) i) :=
    (Tended.refl i _).retestDrive.positionLost.follow
  have hexec : exec (.positionSample i a) s = .next (Ev.follow (ev.positionLost i) i).commit := by
    have hgone : ev.positionGone i = Ev.follow (ev.positionLost i) i := by
      have hmotion' : (ev.crusher i).motion = .moving := by rw [hcrusher]; exact hmotion
      simp only [Ev.positionGone, hmotion']
    rw [exec_position_gone hp hk hgood hvalid (by rw [hbad]; exact Nat.lt_irrefl 2), ← hgone]
  have hposition : ((Ev.follow (ev.positionLost i) i).commit.slots.get i).position = ⟨false, 3, x.position.last, some now⟩ := by
    rw [slot_commit, htended.position i, samplePlaced_slot]
  have hframe : s.change = none → OnlyCrusher (s.modSlot i (fun x => { x with position := ⟨false, 3, x.position.last, some now⟩ }))
      (Ev.follow (ev.positionLost i) i).commit i := by
    intro hc
    have hsame : s.modSlot i (fun y => { y with position := ⟨false, 3, y.position.last, some now⟩ })
        = s.modSlot i (fun y => { y with position := ⟨false, 3, x.position.last, some now⟩ }) := modSlot_congr rfl
    rw [hsame]
    exact onlyCrusher_tended (worked_samplePlaced _ _) htended hc
  have hlost := slot_lostReading (ev := ev) (i := i)
  rw [hslot] at hlost
  refine ⟨_, hexec, hposition, ?_⟩
  cases hmask : x.mask.mem .positionInvalid with
  | true =>
    have hflight : InFlight ((lostReading ev i).crusher i).motion := .inr (.inl (by rw [Ev.crusher, hlost]; exact hmotion))
    have hended : (Ev.follow (ev.positionLost i) i).slot i = suspendSlot .sensor (lostReading ev i).s ((lostReading ev i).slot i) := by
      rw [positionLost_masked (by rw [hslot]; exact hmask), follow_none, addCause_inFlight hflight, slot_modSlot]
    have hclock' : (lostReading ev i).s.clock = now := by
      rw [← hclock]; exact ((((Tended.refl i ev).record .positionInvalid).holdDrive).modCrusher _).clock
    refine ⟨?_, hframe, ?_, ?_, fun _ => ?_, fun h => absurd h (by decide)⟩ <;> rw [slot_commit, hended]
    · rw [hlost]; rfl
    · exact (Slot.command_hold _ _).1
    · exact (Slot.command_hold _ _).2
    · rw [hlost]
      simp only [suspendSlot, hclock', State.remaining]
      rfl
  | false =>
    have hm' : ((lostReading ev i).crusher i).move = some m := by rw [Ev.crusher, hlost]; exact hm
    have hout : ((lostReading ev i).crusher i).motion.inEpisode = false := by
      rw [Ev.crusher, hlost, show ({ c with settle := none } : Crusher).motion = .moving from hmotion]; rfl
    have hquiet' : Quiet ((lostReading ev i).slot i) := by
      rw [hlost]; exact hquiet.resolve_left (by rw [hmask]; decide)
    have hended : Ev.follow (ev.positionLost i) i = ((lostReading ev i).finishMove i .failed .sensor).1 := by
      rw [positionLost_unmasked (by rw [hslot]; exact hmask), follow_finishMove _ _ hm' hout hquiet']
    obtain ⟨f, hf⟩ := slot_finishMove .failed .sensor hm' hout
    rw [if_neg (by decide), if_neg (by decide), hlost] at hf
    refine ⟨?_, hframe, ?_, ?_, fun h => absurd h (by decide), fun _ => ?_⟩ <;> rw [slot_commit, hended]
    · rw [hf]
    · exact (driver_finishMove .failed .sensor hm' hout).1
    · exact (driver_finishMove .failed .sensor hm' hout).2
    · rw [hf]; rfl

end

/-- Settles O31: the channel, a slot at rest, and a slot in MOVING. -/
theorem positionSamplesSteerTheMove : Obligations.PositionSamplesSteerTheMove := by
  unfold Obligations.PositionSamplesSteerTheMove
  refine ⟨fun s i a => ⟨good_iff a, fun hp hk hrest => exec_position_rest hp hk hrest, fun h => ?_⟩,
    fun s i a m hp hk hmotion hm => ⟨fun hgood => exec_position_moving hp hk hgood hmotion hm, fun hgood hvalid hbad hquiet => ?_⟩⟩
  · refine if_neg ?_
    rintro ⟨hp, hk⟩
    rcases h with h | h
    · rw [h] at hp; cases hp
    · rw [h] at hk; cases hk
  · obtain ⟨t, hexec, hposition, hconds, hframe, hcmd, hout, hmasked, hunmasked⟩ :=
      exec_position_lost hp hk hgood hmotion hm hvalid hbad hquiet
    refine ⟨t, hexec, hposition, hconds, hframe, hcmd, hout, fun hmask => ?_, hunmasked⟩
    rw [hmasked hmask, suspendedBy, hm, hmotion]
    rfl

end Sys2Proof.Proofs
end


section
/-! PROOF. The start of a move at an IDLE crusher, and the drain of a jaw (R36, R41 to R45). -/

namespace Sys2Proof.Proofs

open Sys2Proof Sys2Proof.Machine

set_option Elab.async false

/-! ### The start of the one entry of a queue (R41, R42) -/

/-- A slot whose move record has its target and its travel timer. -/
def underway (e : Entry) (g pt now : Nat) (x : Slot) : Slot :=
  { x with crusher := { x.crusher with
      queue := [], move := some ⟨e, some g, pt, none, .moving, .zero, 0⟩, travel := some (now + x.cp.travel * 1000) } }

theorem underway_empty {x : Slot} (h : x.crusher.queue = []) (e : Entry) (g pt now : Nat) : underway e g pt now x =
    { x with crusher := { x.crusher with
      move := some ⟨e, some g, pt, none, .moving, .zero, 0⟩, travel := some (now + x.cp.travel * 1000) } } := by
  unfold underway
  rw [← h]

section
variable {ev : Ev} {i : SlotId} {e : Entry} {g pt : Nat}

/-- The travel timer starts; a jaw drains, a cone moves (R42). -/
theorem launch_timed (ev : Ev) (i : SlotId) : ev.launch i =
    let ev' := ev.modSlot i (fun x => { x with crusher := { x.crusher with travel := some (ev.now + x.cp.travel * 1000) } })
    if (ev.slot i).kind = .jaw then ev'.enterDraining i else ev'.enterMoving i := by
  have hsame : ev.modCrusher i (fun c => { c with travel := ev.timer ((ev.slot i).cp.travel * 1000) })
      = ev.modSlot i (fun x => { x with crusher := { x.crusher with travel := some (ev.now + x.cp.travel * 1000) } }) :=
    evModSlot_congr rfl
  unfold Ev.launch
  dsimp only
  rw [hsame]

theorem insertEntry_nil (e : Entry) : insertEntry [] e = [e] := by unfold insertEntry; split <;> rfl

/-- A SET entry with its gap in reach becomes the move record; a jaw drains, a cone moves. -/
theorem startHead_set (hqueue : (ev.slot i).crusher.queue = [e]) (hset : e.kind = .set) (happlied : e.applied = some g)
    (hadj : e.adjusted = false) (haim : aimAt (ev.slot i) g = ⟨some pt, false⟩) : ev.startHead i =
      if (ev.slot i).kind = .jaw then (ev.modSlot i (underway e g pt ev.now)).enterDraining i
      else (ev.modSlot i (underway e g pt ev.now)).enterMoving i := by
  let head := ev.modCrusher i (fun c => { c with queue := [], move := some ⟨e, some g, 0, none, .moving, .zero, 0⟩ })
  have hhead : ev.startHead i = head.aim i g := by
    simp only [Ev.startHead, hqueue, resolveEntry, hset, happlied, hadj, Option.getD_some, Bool.or_false, Bool.false_eq_true, if_false]
    rfl
  have hslot : head.slot i = { ev.slot i with
      crusher := { (ev.slot i).crusher with queue := [], move := some ⟨e, some g, 0, none, .moving, .zero, 0⟩ } } := slot_modCrusher ..
  have haim' : targetFor (head.slot i).cp (head.slot i).crusher.z (head.slot i).crusher.w (head.masked i .reach) g = ⟨some pt, false⟩ := by
    rw [Ev.masked, hslot]; exact haim
  have hstart : head.aim i g = (head.onMove i (fun m => { m with target := pt, adjusted := m.adjusted })).launch i := by
    simp only [Ev.aim, haim', Bool.false_eq_true, if_false, Bool.and_false]
  rw [hhead, hstart, launch_timed, Ev.onMove, slot_modCrusher, hslot]
  simp only [head, modCrusher_eq, evModSlot_modSlot]
  rfl

/-- An entry that joins the empty queue of an IDLE crusher starts at once, and the reply says so (R36, R41). -/
theorem addRequest_starts (hidle : (ev.slot i).crusher.motion = .idle) (hqueue : (ev.slot i).crusher.queue = [])
    (hblock : (ev.slot i).crusher.wearBlock = false) (hu : Unbarred ev.s i) (hstaged : e.staged = false) (hadj : e.adjusted = false)
    {after : Ev} (hstart : (ev.modSlot i (joinedSlot e id)).startHead i = (after, none)) (hdone : (after.crusher i).queue = [])
    (hfree : ∀ b, (after.crusher i).motion ≠ .blocked b) (c : ReqCode) (r : Request) (v : Int) :
    ev.addRequest c r i e v id = after.answerAt ev.replies.length c r .started .noReason (.entry v false 0) := by
  have hjoined : (ev.modCrusher i id).joinQueue i e = ev.modSlot i (joinedSlot e id) := joinedEv_plain (f := id) hadj
  have hslot : (ev.modSlot i (joinedSlot e id)).slot i = joinedSlot e id (ev.slot i) := slot_modSlot ..
  have hentries : ((ev.modSlot i (joinedSlot e id)).slot i).crusher.queue = [e] := by
    rw [hslot]; simp only [joinedSlot, hqueue, insertEntry_nil]
  have hcan : (ev.modSlot i (joinedSlot e id)).canStart i = true := by
    refine canStart_single (by rw [hslot]; exact hidle) hentries hstaged ⟨?_, hu.2⟩
    show ((ev.modSlot i (joinedSlot e id)).slot i).lockout.state = false
    rw [hslot]; exact hu.1
  have hcheck : (ev.modSlot i (joinedSlot e id)).check i = after := by
    have := startCheck_started (ev := ev.modSlot i (joinedSlot e id)) (i := i) (by rw [hslot]; exact hblock) hcan
      (.inl (by rw [hstart])) (((ev.modSlot i (joinedSlot e id)).crusher i).queue.length + 2) true
    rw [hstart] at this
    exact this
  have hstarted : startedEntry ((ev.modSlot i (joinedSlot e id)).crusher i) (after.crusher i) e = true := by
    have hcount : countEntry (after.crusher i).queue e < countEntry ((ev.modSlot i (joinedSlot e id)).crusher i).queue e := by
      rw [hdone, Ev.crusher, hentries]; simp [countEntry]
    unfold startedEntry
    rw [decide_eq_true hcount]
    cases hm : (after.crusher i).motion with
    | blocked b => exact absurd hm (hfree b)
    | _ => rfl
  simp only [Ev.addRequest, makeRoom_free (ev := ev) (i := i) (by rw [hqueue]; exact Nat.le_of_ble_eq_true rfl), Ev.insertRequest, hjoined, hcheck]
  simp only [entryReply, hstarted, if_true, hadj, hdone]
  rfl

end

/-! ### DRAINING (R43) -/

/-- The event of an entry to DRAINING: DRAIN on the linked feeder and the drain timers. -/
def draining (ev : Ev) (i : SlotId) : Ev := ((ev.setMotion i .draining).raiseLinked i .drain).startDrainTimers i

section
variable {ev : Ev} {i : SlotId}

theorem raiseLinked_slot (r : Inhibit) (j : SlotId) : ∃ f, (ev.raiseLinked i r).slot j = { ev.slot j with feeder := f } := by
  unfold Ev.raiseLinked
  split
  · next f _ =>
    have hs := Ev.raise_s ev f r
    split at hs
    · exact ⟨_, by simp only [Ev.slot, hs]; rfl⟩
    · simp only [Ev.slot, hs]
      by_cases hj : j = f
      · subst hj; exact ⟨_, State.modSlot_slot_self ..⟩
      · exact ⟨_, State.modSlot_slot_ne _ _ hj⟩
  · exact ⟨_, rfl⟩

theorem raiseLinked_replies (r : Inhibit) : (ev.raiseLinked i r).replies = ev.replies := by
  unfold Ev.raiseLinked
  split
  · unfold Ev.raise; split <;> simp
  · rfl

theorem slot_draining : ∃ f, (draining ev i).slot i = { ev.slot i with
    crusher := { (ev.slot i).crusher with
      motion := .draining
      drainLimit := some (ev.s.clock + (ev.slot i).cp.drainLimit * 1000)
      fixedDrain := if (ev.slot i).cp.levelIn then none else some (ev.s.clock + (ev.slot i).cp.drainFixed * 1000) }
    feeder := f } := by
  obtain ⟨f, hf⟩ := raiseLinked_slot (ev := ev.setMotion i .draining) (i := i) .drain i
  have hclock : ((ev.setMotion i .draining).raiseLinked i .drain).s.clock = ev.s.clock :=
    (((Tended.refl i ev).setMotion _).raiseLinked _).clock
  rw [Ev.setMotion, slot_modCrusher] at hf
  refine ⟨f, ?_⟩
  unfold draining Ev.startDrainTimers
  dsimp only
  rw [slot_modCrusher]
  simp only [Ev.setMotion, hf, Ev.timer] at hclock ⊢
  rw [hclock]

theorem draining_replies : (draining ev i).replies = ev.replies := raiseLinked_replies (ev := ev.setMotion i .draining) .drain

theorem worked_draining : Worked i (ev.slot i).cp.linkedFeeder ev.s (draining ev i).s := by
  have hraise := worked_raiseLinked (ev.setMotion i .draining) i .drain
  rw [Ev.setMotion, slot_modCrusher] at hraise
  exact ((worked_modCrusher ev i _).trans hraise).trans (worked_modCrusher _ i _)

theorem onLinked_draining : OnLinked (draining ev i).s i (fun f => f.inhibits.drain = true) :=
  (SameInhibits.modCrusher ((ev.setMotion i .draining).raiseLinked i .drain) i _).onLinked (p := fun x => x.drain = true)
    (onLinked_raiseLinked (ev.setMotion i .draining) i .drain)

/-- A feeder that met the law of references is held at 0 by the reason raised (R108). -/
theorem off_draining (hfed : ∀ f, FedOk (ev.feeder f)) : OnLinked (draining ev i).s i (fun f => f.r = 0) := by
  have htended : Tended i ev (draining ev i) := (((Tended.refl i ev).setMotion _).raiseLinked _).startDrainTimers
  intro f hf
  exact (htended.fed f (hfed f)).off (r := .drain) (onLinked_draining f hf)

/-- While the cavity is not read empty the jaw waits (R43). -/
theorem enterDraining_waits (h : (ev.slot i).cavityEmpty = false) : ev.enterDraining i = (draining ev i, none) := by
  obtain ⟨f, hf⟩ := slot_draining (ev := ev) (i := i)
  have hfull : ¬ ((draining ev i).slot i).cavityEmpty = true := by rw [hf]; exact Bool.eq_false_iff.mp h
  exact if_neg hfull

theorem fedOk_of_feedLaw {s : State} (h : FeedLaw s) (f : SlotId) : FedOk (s.slots.get f).feeder := fun hr => ((h f).1 hr).2

/-- The jaw leaves DRAINING and drives (R43, R44). -/
theorem leaveDraining_driving {m : MoveRec} {p : Nat} {d : Dir} (hm : (ev.crusher i).move = some m)
    (hvalid : (ev.slot i).position.valid = true) (hlast : (ev.slot i).position.last = some p)
    (hd : toward p m.target (ev.slot i).cp.db = .drive d) : ev.leaveDraining i = (ev.modSlot i (fun x => driving ev.now p m.target d
      { x with crusher := { x.crusher with motion := .moving, drainLimit := none, fixedDrain := none } }), none) := by
  have hslot : (ev.stopDrainTimers i).slot i = { ev.slot i with
      crusher := { (ev.slot i).crusher with drainLimit := none, fixedDrain := none } } := slot_modCrusher ..
  rw [Ev.leaveDraining, enterMoving_driving (m := m) (p := p) (d := d) (by rw [Ev.crusher, hslot]; exact hm) (by rw [hslot]; exact hvalid)
    (by rw [hslot]; exact hlast) (by rw [hslot]; exact hd), Ev.stopDrainTimers, modCrusher_eq, evModSlot_modSlot]
  rfl

end

/-! ### An event that answers a request, among others (R175, R176) -/

/-- The reply an immediate answer puts into the transmit queue. -/
abbrev replyTo (s : State) (c : ReqCode) (r : Request) (d : Disposition) (why : Reason) (body : ReplyBody) : Reply :=
  ⟨c.code, d, why, r.tag, (s.ports.get r.port).reqno + 1, r.slot, body⟩

section
variable {s : State} {c : ReqCode} {r : Request} {ev : Ev} {d : Disposition} {why : Reason} {body : ReplyBody}

theorem exec_handled (ht : Taken s c r) (hh : Ev.handle c r (Ev.of (s.countRequest r.port)) = ev) : exec (c.command r) s = .next ev.commit := by
  rw [exec_command, State.takeRequest_taken _ _ _ _ ht.1 ht.2, hh]

/-- An event that raises its immediate reply and no other reply. -/
theorem tx_answered (ht : Taken s c r) (hports : ev.s.ports = (s.countRequest r.port).ports) (hphase : ev.s.phase = s.phase)
    (hon : ∀ q, ev.s.enabled q = s.enabled q) (hr : ev.replies = []) :
    ((ev.answerAt 0 c r d why body).commit.ports.get r.port).tx = (s.ports.get r.port).tx ++ [replyTo s c r d why body] := by
  obtain ⟨hrunning, henabled, hroom⟩ := State.takes_spec ht.1
  have hport : (ev.s.ports.get r.port).tx = (s.ports.get r.port).tx ∧ (ev.s.ports.get r.port).reqno = (s.ports.get r.port).reqno + 1 := by
    rw [hports]; simp
  have hreplies : (ev.answerAt 0 c r d why body).replies = [⟨r.port, true, replyTo s c r d why body⟩] := by
    simp only [Ev.answerAt, Ev.immediateAt, hr, Ev.reqno, hport.2, List.take_nil, List.drop_nil, List.nil_append]
  have htx := commit_tx_all (ev := ev.answerAt 0 c r d why body) (q := r.port) (hphase.trans hrunning) ((hon _).trans henabled) (by
    rw [hreplies]
    show (ev.s.ports.get r.port).tx.length + _ ≤ 64
    rw [hport.1]
    simpa using hroom)
  rw [htx, hreplies]
  show (ev.s.ports.get r.port).tx ++ _ = _
  rw [hport.1]
  simp

end

/-! ### SET_GAP at an IDLE crusher (R36, R42) -/

section
variable {s : State} {r : Request} {i : SlotId} {pt : Nat}

/-- What SET_GAP asks of an IDLE crusher that starts at once: nothing bars or delays the start, and the gap is in reach. -/
structure StartsAt (s : State) (r : Request) (i : SlotId) (pt : Nat) : Prop where
  owned : OnCrusher s .setGap r i
  unbarred : Unbarred s i
  idle : (s.slots.get i).crusher.motion = .idle
  queue : (s.slots.get i).crusher.queue = []
  wearBlock : (s.slots.get i).crusher.wearBlock = false
  unstaged : r.staged = false
  low : (s.slots.get i).cp.envMin ≤ wordAt r.payload 0
  high : wordAt r.payload 0 ≤ (s.slots.get i).cp.envMax
  range : wordAt r.payload 0 ≤ 4095
  reach : aimAt (s.slots.get i) (wordAt r.payload 0) = ⟨some pt, false⟩

/-- The entry of the request. -/
abbrev setEntry (s : State) (r : Request) : Entry := s.entryFor .setGap r .set (wordAt r.payload 0) (some (wordAt r.payload 0)) false

/-- The event once the request's entry has become the move record. -/
def startedAt (s : State) (r : Request) (i : SlotId) (pt : Nat) : Ev :=
  (Ev.of (s.countRequest r.port)).modSlot i (underway (setEntry s r) (wordAt r.payload 0) pt s.clock)

theorem StartsAt.startHead (h : StartsAt s r i pt) :
    ((Ev.of (s.countRequest r.port)).modSlot i (joinedSlot (setEntry s r) id)).startHead i =
      if (s.slots.get i).kind = .jaw then (startedAt s r i pt).enterDraining i else (startedAt s r i pt).enterMoving i := by
  have hslot : ((Ev.of (s.countRequest r.port)).modSlot i (joinedSlot (setEntry s r) id)).slot i
      = joinedSlot (setEntry s r) id (s.slots.get i) := slot_modSlot ..
  rw [startHead_set (e := setEntry s r) (by rw [hslot]; simp only [joinedSlot, h.queue, insertEntry_nil]) rfl rfl rfl (by rw [hslot]; exact h.reach), hslot,
    evModSlot_modSlot]
  have hsame : (Ev.of (s.countRequest r.port)).modSlot i (fun x => underway (setEntry s r) (wordAt r.payload 0) pt
        ((Ev.of (s.countRequest r.port)).modSlot i (joinedSlot (setEntry s r) id)).now (joinedSlot (setEntry s r) id x))
      = startedAt s r i pt := evModSlot_congr rfl
  rw [hsame]
  rfl

theorem StartsAt.handle (h : StartsAt s r i pt) {after : Ev}
    (hstart : (if (s.slots.get i).kind = .jaw then (startedAt s r i pt).enterDraining i else (startedAt s r i pt).enterMoving i) = (after, none))
    (hdone : (after.crusher i).queue = []) (hfree : ∀ b, (after.crusher i).motion ≠ .blocked b) :
    Ev.handle .setGap r (Ev.of (s.countRequest r.port)) =
      after.answerAt 0 .setGap r .started .noReason (.entry (wordAt r.payload 0) false 0) := by
  have hgate : s.moveGate i = none := moveGate_open h.unbarred (fun b => by rw [h.idle]; exact Motion.noConfusion)
  rw [handle_setGap h.owned hgate, if_pos h.range, enqueueGap_inside h.low h.high]
  exact addRequest_starts (ev := Ev.of (s.countRequest r.port)) (e := setEntry s r) h.idle h.queue h.wearBlock h.unbarred h.unstaged rfl
    (h.startHead.trans hstart) hdone hfree .setGap r _

theorem slot_startedAt : (startedAt s r i pt).slot i = underway (setEntry s r) (wordAt r.payload 0) pt s.clock (s.slots.get i) :=
  slot_modSlot ..

/-- A cone drives at once (R44, R45). -/
theorem StartsAt.cone (h : StartsAt s r i pt) (hcone : (s.slots.get i).kind = .cone) {p : Nat}
    (hvalid : (s.slots.get i).position.valid = true) (hlast : (s.slots.get i).position.last = some p) :
    let reply := fun (t : State) => nextState (t.withReply .setGap r .started .noReason (.entry (wordAt r.payload 0) false 0))
    let run := underway (setEntry s r) (wordAt r.payload 0) pt s.clock
    (∀ d, toward p pt (s.slots.get i).cp.db = .drive d → exec (.setGap r) s = reply (s.modSlot i (fun x =>
        driving s.clock p pt d { run x with crusher := { (run x).crusher with motion := .moving } })))
      ∧ (toward p pt (s.slots.get i).cp.db = .arrived → exec (.setGap r) s = reply (s.modSlot i (fun x => arriving s.clock (run x)))) := by
  intro reply run
  have hnotJaw : ¬ (s.slots.get i).kind = .jaw := by rw [hcone]; decide
  have hm : ((startedAt s r i pt).crusher i).move = some ⟨setEntry s r, some (wordAt r.payload 0), pt, none, .moving, .zero, 0⟩ := by
    rw [Ev.crusher, slot_startedAt]; rfl
  have hvalid' : ((startedAt s r i pt).slot i).position.valid = true := by rw [slot_startedAt]; exact hvalid
  have hlast' : ((startedAt s r i pt).slot i).position.last = some p := by rw [slot_startedAt]; exact hlast
  refine ⟨fun d hd => ?_, fun ha => ?_⟩
  · have hmoving := enterMoving_driving hm hvalid' hlast' (d := d) (by rw [slot_startedAt]; exact hd)
    rw [startedAt, evModSlot_modSlot] at hmoving
    refine exec_changes h.owned.1 (h.handle ((if_neg hnotJaw).trans hmoving) ?_ fun b => ?_) <;> rw [Ev.crusher, slot_modSlot]
    · rfl
    · exact Motion.noConfusion
  · have hsettling := enterMoving_arriving hm hvalid' hlast' (by rw [slot_startedAt]; exact ha)
    rw [startedAt, evModSlot_modSlot] at hsettling
    refine exec_changes h.owned.1 (h.handle ((if_neg hnotJaw).trans hsettling) ?_ fun b => ?_) <;> rw [Ev.crusher, slot_modSlot]
    · rfl
    · exact Motion.noConfusion

/-- A jaw waits in DRAINING (R43). -/
theorem StartsAt.jaw (h : StartsAt s r i pt) (hjaw : (s.slots.get i).kind = .jaw) (hcavity : (s.slots.get i).cavityEmpty = false) :
    let x := s.slots.get i
    ∃ t, exec (.setGap r) s = .next t
      ∧ (t.slots.get i).crusher =
          { x.crusher with
            motion := .draining, travel := some (s.clock + x.cp.travel * 1000)
            drainLimit := some (s.clock + x.cp.drainLimit * 1000)
            fixedDrain := if x.cp.levelIn then none else some (s.clock + x.cp.drainFixed * 1000)
            move := some ⟨setEntry s r, some (wordAt r.payload 0), pt, none, .moving, .zero, 0⟩ }
      ∧ (t.slots.get i).driver = x.driver
      ∧ OnLinked t i (fun f => f.inhibits.drain = true) ∧ (FeedLaw s → OnLinked t i (fun f => f.r = 0))
      ∧ (t.ports.get r.port).tx = (s.ports.get r.port).tx
          ++ [replyTo s .setGap r .started .noReason (.entry (wordAt r.payload 0) false 0)]
      ∧ OnlyCrusher (s.countRequest r.port) t i := by
  intro x
  let ev := draining (startedAt s r i pt) i
  have hwaits := enterDraining_waits (ev := startedAt s r i pt) (i := i) (by rw [slot_startedAt]; exact hcavity)
  obtain ⟨f, hf⟩ := slot_draining (ev := startedAt s r i pt) (i := i)
  rw [slot_startedAt, underway_empty h.queue] at hf
  have hhandle := h.handle (after := ev) ((if_pos hjaw).trans hwaits) (by rw [Ev.crusher, hf]; exact h.queue)
    (fun b => by rw [Ev.crusher, hf]; exact Motion.noConfusion)
  have htended : Tended i (Ev.of (s.countRequest r.port)) ev :=
    (((Tended.refl i _).trans (.of_own _ (fun _ => rfl) (fun _ => .nil) id)).setMotion _).raiseLinked _ |>.startDrainTimers
  have hworked : Worked i (s.slots.get i).cp.linkedFeeder (s.countRequest r.port) ev.s := by
    have hdrain := worked_draining (ev := startedAt s r i pt) (i := i)
    rw [slot_startedAt] at hdrain
    exact (Worked.own (f := underway (setEntry s r) (wordAt r.payload 0) pt s.clock) (fun _ => rfl)).trans hdrain
  have hfed : FeedLaw s → ∀ f, FedOk ((startedAt s r i pt).feeder f) := by
    intro hlaw f
    have hstart : Tended i (Ev.of (s.countRequest r.port)) (startedAt s r i pt) := .of_own _ (fun _ => rfl) (fun _ => .nil) id
    exact hstart.fed f (fedOk_of_feedLaw hlaw f)
  refine ⟨_, exec_handled h.owned.1 hhandle, ?crusher, ?driver, ?linked, fun hlaw => ?off, ?tx, ?frame⟩
  case crusher =>
    rw [slot_commit]
    show ((draining (startedAt s r i pt) i).slot i).crusher = _
    rw [hf]
    rfl
  case driver =>
    rw [slot_commit]
    show ((draining (startedAt s r i pt) i).slot i).driver = _
    rw [hf]
  case linked => exact (onLinked_commit ..).mpr onLinked_draining
  case off => exact (onLinked_commit ..).mpr (off_draining (hfed hlaw))
  case tx => exact tx_answered h.owned.1 htended.ports htended.phase htended.enabled draining_replies
  case frame => exact onlyCrusher_commit hworked

end

/-! ### The jaw leaves DRAINING (R43, R161) -/

section
variable {s : State} {i : SlotId} {m : MoveRec} {p : Nat} {d : Dir}

theorem exec_fixedDrain (hp : s.phase = .running) (hmotion : (s.slots.get i).crusher.motion = .draining)
    (hm : (s.slots.get i).crusher.move = some m) (hvalid : (s.slots.get i).position.valid = true)
    (hlast : (s.slots.get i).position.last = some p) (hd : toward p m.target (s.slots.get i).cp.db = .drive d) {e : Nat}
    (htimer : (s.slots.get i).crusher.fixedDrain = some e) :
    exec (.fixedDrainExpiry i) s = .next ((s.reach e).modSlot i (fun x => driving (max s.clock e) p m.target d
      { x with crusher := { x.crusher with motion := .moving, drainLimit := none, fixedDrain := none } })) := by
  have hmotion' : ((Ev.of (s.reach e)).crusher i).motion = .draining := hmotion
  show execFixedDrainExpiry i s = _
  rw [execFixedDrainExpiry, exec_expiry hp htimer, Ev.fixedDrainOut, hmotion',
    leaveDraining_driving (ev := Ev.of (s.reach e)) hm hvalid hlast hd, follow_none, Ev.commit_silent _ rfl rfl]
  rfl

theorem exec_level (hp : s.phase = .running) (hmotion : (s.slots.get i).crusher.motion = .draining)
    (hm : (s.slots.get i).crusher.move = some m) (hvalid : (s.slots.get i).position.valid = true)
    (hlast : (s.slots.get i).position.last = some p) (hd : toward p m.target (s.slots.get i).cp.db = .drive d)
    {raw : BitVec 12} (hjaw : (s.slots.get i).kind = .jaw) (hlevel : (s.slots.get i).cp.levelIn = true) (hlow : 575 ≤ raw.toNat)
    (hhigh : raw.toNat ≤ 3356) (hempty : scaled 1000 raw.toNat ≤ (s.slots.get i).cp.cavEmpty) :
    let s' := s.reachSample (s.slots.get i).level.sampledAt 50
    exec (.analogSample (.level i) raw) s = .next (s'.modSlot i (fun x => driving s'.clock p m.target d
      { x with level := ⟨true, scaled 1000 raw.toNat, some s'.clock⟩
               crusher := { x.crusher with motion := .moving, drainLimit := none, fixedDrain := none } })) := by
  intro s'
  let sampled := s'.modSlot i (fun x => { x with level := ⟨true, scaled 1000 raw.toNat, some s'.clock⟩ })
  have hslot : (Ev.of sampled).slot i = { s.slots.get i with level := ⟨true, scaled 1000 raw.toNat, some s'.clock⟩ } := by
    rw [slot_of, State.modSlot_slot_self, reachSample_slots]
  have hcrusher : (Ev.of sampled).crusher i = (s.slots.get i).crusher := by rw [Ev.crusher, hslot]
  have hreading : (Ev.of sampled).levelValue i = Ev.follow ((Ev.of sampled).leaveDraining i) i := by
    have hcavity : ((Ev.of sampled).slot i).cavityEmpty = true := by
      rw [hslot]; simp [Slot.cavityEmpty, hlevel, hempty]
    have hmotion' : ((Ev.of sampled).slot i).crusher.motion = .draining := by rw [hslot]; exact hmotion
    simp only [Ev.levelValue, hcavity, hmotion', if_true]
  have hexec : exec (.analogSample (.level i) raw) s = .next ((Ev.of sampled).levelValue i).commit := by
    have huse : s.analogInUse (.level i) = true := by simp [State.analogInUse, hjaw, Kind.isCrusher, hlevel]
    have hsample : sampleValid raw.toNat = true := by simp [sampleValid, hlow, hhigh]
    show execAnalogSample (.level i) raw s = _
    rw [execAnalogSample, if_pos huse]
    simp only [if_pos hp, Analog.sample, hsample, if_true]
    cases (s.analog (.level i)).valid <;> rfl
  rw [hexec, hreading, leaveDraining_driving (m := m) (p := p) (d := d) (by rw [hcrusher]; exact hm) (by rw [hslot]; exact hvalid)
    (by rw [hslot]; exact hlast) (by rw [hslot]; exact hd), follow_none, Ev.commit_silent _ rfl rfl, Ev.modSlot_s, Ev.of_s,
    State.modSlot_modSlot]
  rfl

end

/-- Settles O30: a cone starts as `StartsAt.cone` says; a jaw waits in `draining`, and leaves it for the drive. -/
theorem idleCrushersStartTheMove : Obligations.IdleCrushersStartTheMove := by
  unfold Obligations.IdleCrushersStartTheMove
  refine ⟨fun s r i pt p hc hu => ?cone, fun s i => ⟨fun r pt hc hu hjaw hidle hqueue hblock hstaged hcavity => ?jaw,
    fun m p d hp hmotion hm hvalid hlast hd => ?leaves⟩⟩
  case cone =>
    intro x c g hcone hidle hqueue hblock hstaged hlow hhigh hrange hreach hvalid hlast m run reply
    have hstarts : StartsAt s r i pt := ⟨hc, hu, hidle, hqueue, hblock, hstaged, hlow, hhigh, hrange, hreach⟩
    obtain ⟨hdrives, harrives⟩ := hstarts.cone hcone hvalid hlast
    have hrun : underway (setEntry s r) g pt s.clock x = { x with crusher := run } := underway_empty hqueue ..
    refine ⟨fun d hd => (hdrives d hd).trans (congrArg reply (modSlot_congr ?_)), fun ha => (harrives ha).trans (congrArg reply (modSlot_congr ?_))⟩
    · rw [hrun]; rfl
    · rw [hrun]; rfl
  case jaw =>
    intro g hlow hhigh hrange hreach
    exact StartsAt.jaw ⟨hc, hu, hidle, hqueue, hblock, hstaged, hlow, hhigh, hrange, hreach⟩ hjaw hcavity
  case leaves =>
    exact ⟨fun e htimer => exec_fixedDrain hp hmotion hm hvalid hlast hd htimer,
      fun raw hjaw hlevel hlow hhigh hempty => exec_level hp hmotion hm hvalid hlast hd hjaw hlevel hlow hhigh hempty⟩

end Sys2Proof.Proofs
end


section
/-! PROOF. RESUME (R46, R47, R48, R50). -/

namespace Sys2Proof.Proofs

open Sys2Proof Sys2Proof.Machine

set_option Elab.async false

/-! ### The causes of a suspended move (R48, R50) -/

/-- The causes that a RESUME leaves. -/
def causesKept (m : MoveRec) (stopped : Bool) : Causes := ⟨false, m.causes.sensor, m.causes.lineStop && stopped, false⟩

/-- The entry of a move that a RESUME goes on with: the resumer adopts a move that was handed over. -/
def adoptedEntry (s : State) (r : Request) (m : MoveRec) : Entry :=
  if m.causes.handover = true then
    { m.entry with origin := .port r.port, code := .resume, tag := r.tag, reqno := (s.ports.get r.port).reqno + 1,
                   ack := r.ackWanted, changeId := none }
  else m.entry

/-- The move record as a RESUME leaves it. -/
def resumedMove (s : State) (r : Request) (m : MoveRec) : MoveRec :=
  { m with causes := causesKept m s.lineStop.state, entry := adoptedEntry s r m }

theorem resumedMove_eq (s : State) (r : Request) (m : MoveRec) :
    (m.adopt r ((s.ports.get r.port).reqno + 1)).resume s.lineStop.state = resumedMove s r m := by
  unfold MoveRec.adopt resumedMove adoptedEntry
  split <;> rfl

theorem causesKept_isEmpty (m : MoveRec) (stopped : Bool) : (causesKept m stopped).isEmpty = true
    ↔ (causesKept m stopped).sensor = false ∧ (causesKept m stopped).lineStop = false := by
  simp only [causesKept, Causes.isEmpty, Bool.false_or, Bool.or_false, Bool.not_eq_true', Bool.or_eq_false_iff]

section
variable {ev : Ev} {i : SlotId} {m : MoveRec}

/-- A move with causes left goes on waiting. -/
theorem testCauses_waits (hm : (ev.crusher i).move = some m) (h : m.causes.isEmpty = false) : ev.testCauses i = (ev, none) := by
  refine if_neg ?_
  rw [hm]
  rintro ⟨-, hnone⟩
  rw [Option.any_some, h] at hnone
  cases hnone

theorem testCauses_leaves (hmotion : (ev.crusher i).motion = .suspended) (hm : (ev.crusher i).move = some m)
    (h : m.causes.isEmpty = true) : ev.testCauses i = ev.leaveSuspension i :=
  if_pos ⟨hmotion, by rw [hm]; exact h⟩

variable (hm : (ev.crusher i).move = some m)
include hm

theorem leaveSuspension_moving (hback : m.returnTo = .moving) (hvalid : (ev.slot i).position.valid = true) :
    ev.leaveSuspension i = (ev.restartTravel i).enterMoving i := by
  simp only [Ev.leaveSuspension, hm, hback, hvalid]

theorem leaveSuspension_blind (hback : m.returnTo = .moving) (hvalid : (ev.slot i).position.valid = false) : ev.leaveSuspension i =
    if ev.masked i .positionInvalid then (ev.addCause i .sensor, none) else ev.finishMove i .failed .sensor := by
  simp only [Ev.leaveSuspension, hm, hback, hvalid]

theorem leaveSuspension_draining (hback : m.returnTo = .draining) : ev.leaveSuspension i = (ev.restartTravel i).enterDraining i := by
  simp only [Ev.leaveSuspension, hm, hback]

end

/-! ### The event of a RESUME in SUSPENDED -/

/-- The event once the causes are removed and the move is adopted. -/
def resumedAt (s : State) (r : Request) (i : SlotId) (m : MoveRec) : Ev :=
  (Ev.of (s.countRequest r.port)).modSlot i (fun x => { x with crusher := { x.crusher with move := some (resumedMove s r m) } })

section
variable {s : State} {r : Request} {i : SlotId} {m : MoveRec}

theorem slot_resumedAt : (resumedAt s r i m).slot i =
    { s.slots.get i with crusher := { (s.slots.get i).crusher with move := some (resumedMove s r m) } } := slot_modSlot ..

theorem tended_resumedAt : Tended i (Ev.of (s.countRequest r.port)) (resumedAt s r i m) := .of_own _ (fun _ => rfl) id id

theorem handle_resume_refused (hc : OnCrusher s .resume r i) (h : (s.slots.get i).crusher.motion ≠ .suspended) :
    Ev.handle .resume r (Ev.of (s.countRequest r.port)) = (Ev.of (s.countRequest r.port)).refuse .resume r .notSuspended := by
  obtain ⟨-, ho, hk⟩ := hc
  show (Ev.of (s.countRequest r.port)).onResume r = _
  rw [Ev.onResume, onCrusher_owned ho hk]
  exact congrArg (fun o => (Ev.of (s.countRequest r.port)).unless .resume r o _) (if_neg h)

/-- What a RESUME makes of a suspended move, where `t` is what its causes let it do. -/
theorem handle_resume (hc : OnCrusher s .resume r i) (hmotion : (s.slots.get i).crusher.motion = .suspended)
    (hm : (s.slots.get i).crusher.move = some m) {t : Ev × Option Bool} (ht : (resumedAt s r i m).testCauses i = t) {left : Causes}
    (hleft : (t.1.crusher i).causesLeft = left) : Ev.handle .resume r (Ev.of (s.countRequest r.port)) =
      Ev.follow (t.1.answerAt 0 .resume r (if left.isEmpty then .done else .partialDone) .noReason (.causes left), t.2) i := by
  obtain ⟨-, ho, hk⟩ := hc
  have hstart : (Ev.of (s.countRequest r.port)).onMove i (fun m =>
      (m.adopt r ((Ev.of (s.countRequest r.port)).reqno r.port)).resume (Ev.of (s.countRequest r.port)).s.lineStop.state)
      = resumedAt s r i m := by
    have hreqno : (Ev.of (s.countRequest r.port)).reqno r.port = (s.ports.get r.port).reqno + 1 := by simp [Ev.reqno]
    rw [hreqno]
    refine evModSlot_congr ?_
    simp only [slot_of, State.countRequest_slots, hm, Option.map_some]
    exact congrArg (fun m => ({ s.slots.get i with crusher := { (s.slots.get i).crusher with move := some m } } : Slot)) (resumedMove_eq s r m)
  have hgate : (if ((Ev.of (s.countRequest r.port)).crusher i).motion = .suspended then none else some Reason.notSuspended) = none := if_pos hmotion
  show (Ev.of (s.countRequest r.port)).onResume r = _
  rw [Ev.onResume, onCrusher_owned ho hk, hgate]
  simp only [Ev.unless]
  rw [hstart, ht, hleft]

theorem causesLeft_running {c : Crusher} (h : c.motion ≠ .suspended) : c.causesLeft = .zero := if_neg h

/-- A RESUME after which the move waits: its slot alone has changed. -/
theorem exec_resume_waits (hc : OnCrusher s .resume r i) (hmotion : (s.slots.get i).crusher.motion = .suspended)
    (hm : (s.slots.get i).crusher.move = some m) {m' : MoveRec} (hsome : m'.causes.isEmpty = false)
    (ht : (resumedAt s r i m).testCauses i = ((Ev.of (s.countRequest r.port)).modSlot i (fun x =>
      { x with crusher := { x.crusher with move := some m' } }), none)) :
    exec (.resume r) s = .next ((s.modSlot i (fun x => { x with crusher := { x.crusher with move := some m' } })).withReply
      .resume r .partialDone .noReason (.causes m'.causes)) := by
  have hleft : (((Ev.of (s.countRequest r.port)).modSlot i (fun x =>
      { x with crusher := { x.crusher with move := some m' } })).crusher i).causesLeft = m'.causes := by
    rw [Ev.crusher, slot_modSlot]; exact if_pos hmotion
  have hhandle := handle_resume hc hmotion hm ht hleft
  rw [hsome] at hhandle
  exact exec_changes hc.1 hhandle

/-- A RESUME after which the move runs: its slot alone has changed. -/
theorem exec_resume_runs (hc : OnCrusher s .resume r i) (hmotion : (s.slots.get i).crusher.motion = .suspended)
    (hm : (s.slots.get i).crusher.move = some m) {f : Slot → Slot} (hruns : (f (s.slots.get i)).crusher.motion ≠ .suspended)
    (ht : (resumedAt s r i m).testCauses i = ((Ev.of (s.countRequest r.port)).modSlot i f, none)) :
    exec (.resume r) s = .next ((s.modSlot i f).withReply .resume r .done .noReason (.causes .zero)) := by
  have hleft : (((Ev.of (s.countRequest r.port)).modSlot i f).crusher i).causesLeft = .zero := by
    rw [Ev.crusher, slot_modSlot]; exact causesLeft_running hruns
  exact exec_changes hc.1 (handle_resume hc hmotion hm ht hleft)

end

/-! ### A move with no cause left (R46, R47, R48) -/

/-- The crusher that goes on with the time its move had left. -/
def onward (s : State) (r : Request) (m : MoveRec) (c : Crusher) : Crusher :=
  { c with move := some (resumedMove s r m), suspension := none, travel := some (s.clock + m.remaining) }

section
variable {s : State} {r : Request} {i : SlotId} {m : MoveRec} (hc : OnCrusher s .resume r i)
  (hmotion : (s.slots.get i).crusher.motion = .suspended) (hm : (s.slots.get i).crusher.move = some m)
  (hsensor : (causesKept m s.lineStop.state).sensor = false) (hstop : (causesKept m s.lineStop.state).lineStop = false)

theorem restartTravel_resumedAt : (resumedAt s r i m).restartTravel i =
    (Ev.of (s.countRequest r.port)).modSlot i (fun x => { x with crusher := onward s r m x.crusher }) := by
  rw [resumedAt, Ev.restartTravel, modCrusher_eq, evModSlot_modSlot]
  exact evModSlot_congr rfl

include hmotion hsensor hstop

theorem testCauses_resumedAt : (resumedAt s r i m).testCauses i = (resumedAt s r i m).leaveSuspension i := by
  refine testCauses_leaves (m := resumedMove s r m) ?_ ?_ ((causesKept_isEmpty ..).mpr ⟨hsensor, hstop⟩) <;> rw [Ev.crusher, slot_resumedAt]
  exact hmotion

include hc hm

/-- It drives on, or settles within DB. -/
theorem exec_resume_moving (hback : m.returnTo = .moving) {p : Nat} (hvalid : (s.slots.get i).position.valid = true)
    (hlast : (s.slots.get i).position.last = some p) :
    (∀ d, toward p m.target (s.slots.get i).cp.db = .drive d → exec (.resume r) s = .next ((s.modSlot i (fun x =>
        driving s.clock p m.target d { x with crusher := { onward s r m x.crusher with motion := .moving } })).withReply
          .resume r .done .noReason (.causes .zero)))
      ∧ (toward p m.target (s.slots.get i).cp.db = .arrived → exec (.resume r) s = .next ((s.modSlot i (fun x =>
        arriving s.clock { x with crusher := onward s r m x.crusher })).withReply .resume r .done .noReason (.causes .zero))) := by
  let ev := (Ev.of (s.countRequest r.port)).modSlot i (fun x => { x with crusher := onward s r m x.crusher })
  have hslot : ev.slot i = { s.slots.get i with crusher := onward s r m (s.slots.get i).crusher } := slot_modSlot ..
  have hm' : (ev.crusher i).move = some (resumedMove s r m) := by rw [Ev.crusher, hslot]; rfl
  have hvalid' : (ev.slot i).position.valid = true := by rw [hslot]; exact hvalid
  have hlast' : (ev.slot i).position.last = some p := by rw [hslot]; exact hlast
  have hleaves : (resumedAt s r i m).testCauses i = ev.enterMoving i := by
    rw [testCauses_resumedAt hmotion hsensor hstop, leaveSuspension_moving (m := resumedMove s r m) (by rw [Ev.crusher, slot_resumedAt]) hback
      (by rw [slot_resumedAt]; exact hvalid), restartTravel_resumedAt]
  refine ⟨fun d hd => ?_, fun ha => ?_⟩
  · rw [enterMoving_driving hm' hvalid' hlast' (by rw [hslot]; exact hd), evModSlot_modSlot] at hleaves
    exact exec_resume_runs hc hmotion hm Motion.noConfusion hleaves
  · rw [enterMoving_arriving hm' hvalid' hlast' (by rw [hslot]; exact ha), evModSlot_modSlot] at hleaves
    exact exec_resume_runs hc hmotion hm Motion.noConfusion hleaves

/-- At an invalid position, with POSITION_INVALID masked, it waits for its sensor. -/
theorem exec_resume_blind (hback : m.returnTo = .moving) (hvalid : (s.slots.get i).position.valid = false)
    (hmask : (s.slots.get i).mask.mem .positionInvalid = true) :
    let waits : Causes := { causesKept m s.lineStop.state with sensor := true }
    exec (.resume r) s = .next ((s.modSlot i (fun x =>
      { x with crusher := { x.crusher with move := some { resumedMove s r m with causes := waits } } })).withReply
        .resume r .partialDone .noReason (.causes waits)) := by
  have hmask' : (resumedAt s r i m).masked i .positionInvalid = true := by rw [Ev.masked, slot_resumedAt]; exact hmask
  have hwaiting : Waiting ((resumedAt s r i m).crusher i).motion := .inl (by rw [Ev.crusher, slot_resumedAt]; exact hmotion)
  refine exec_resume_waits hc hmotion hm (by simp [Causes.isEmpty]) ?_
  rw [testCauses_resumedAt hmotion hsensor hstop, leaveSuspension_blind (m := resumedMove s r m) (by rw [Ev.crusher, slot_resumedAt]) hback
    (by rw [slot_resumedAt]; exact hvalid), if_pos hmask', addCause_waiting hwaiting, resumedAt, Ev.onMove, modCrusher_eq, evModSlot_modSlot]
  rfl

/-- Where it would drain, it drains again. -/
theorem exec_resume_draining (hback : m.returnTo = .draining) (hcavity : (s.slots.get i).cavityEmpty = false) :
    let x := s.slots.get i
    ∃ t, exec (.resume r) s = .next t
      ∧ (t.slots.get i).crusher = { onward s r m x.crusher with
          motion := .draining, drainLimit := some (s.clock + x.cp.drainLimit * 1000)
          fixedDrain := if x.cp.levelIn then none else some (s.clock + x.cp.drainFixed * 1000) }
      ∧ (t.slots.get i).driver = x.driver ∧ (t.slots.get i).conds = x.conds
      ∧ OnLinked t i (fun f => f.inhibits.drain = true) ∧ (FeedLaw s → OnLinked t i (fun f => f.r = 0))
      ∧ (t.ports.get r.port).tx = (s.ports.get r.port).tx ++ [replyTo s .resume r .done .noReason (.causes .zero)]
      ∧ OnlyCrusher (s.countRequest r.port) t i := by
  intro x
  let ev := (Ev.of (s.countRequest r.port)).modSlot i (fun x => { x with crusher := onward s r m x.crusher })
  have hslot : ev.slot i = { x with crusher := onward s r m x.crusher } := slot_modSlot ..
  have hstart : Tended i (Ev.of (s.countRequest r.port)) ev := .of_own _ (fun _ => rfl) id id
  have htended : Tended i (Ev.of (s.countRequest r.port)) (draining ev i) := ((hstart.setMotion _).raiseLinked _).startDrainTimers
  have hleaves : (resumedAt s r i m).testCauses i = (draining ev i, none) := by
    rw [testCauses_resumedAt hmotion hsensor hstop, leaveSuspension_draining (m := resumedMove s r m) (by rw [Ev.crusher, slot_resumedAt]) hback,
      restartTravel_resumedAt, enterDraining_waits (by rw [hslot]; exact hcavity)]
  obtain ⟨f, hf⟩ := slot_draining (ev := ev) (i := i)
  rw [hslot] at hf
  have hleft : ((draining ev i).crusher i).causesLeft = .zero := by rw [Ev.crusher, hf]; exact causesLeft_running Motion.noConfusion
  have hworked : Worked i x.cp.linkedFeeder (s.countRequest r.port) (draining ev i).s := by
    have hdrain := worked_draining (ev := ev) (i := i)
    rw [hslot] at hdrain
    exact (Worked.own (f := fun x => { x with crusher := onward s r m x.crusher }) (fun _ => rfl)).trans hdrain
  refine ⟨_, exec_handled hc.1 (handle_resume hc hmotion hm hleaves hleft), ?crusher, ?driver, ?conds, ?linked, fun hlaw => ?off, ?tx, ?frame⟩
  case crusher =>
    rw [slot_commit]
    show ((draining ev i).slot i).crusher = _
    rw [hf]; rfl
  case driver =>
    rw [slot_commit]
    show ((draining ev i).slot i).driver = _
    rw [hf]
  case conds =>
    rw [slot_commit]
    show ((draining ev i).slot i).conds = _
    rw [hf]
  case linked => exact (onLinked_commit ..).mpr onLinked_draining
  case off => exact (onLinked_commit ..).mpr (off_draining (fun f => hstart.fed f (fedOk_of_feedLaw hlaw f)))
  case tx => exact tx_answered hc.1 htended.ports htended.phase htended.enabled draining_replies
  case frame => exact onlyCrusher_commit hworked

/-- At an invalid position, with POSITION_INVALID not masked, it fails, its final reply behind the immediate one. -/
theorem exec_resume_fails (hback : m.returnTo = .moving) (hvalid : (s.slots.get i).position.valid = false)
    (hmask : (s.slots.get i).mask.mem .positionInvalid = false) (hquiet : Quiet (s.slots.get i)) :
    let x := s.slots.get i
    ∃ t, exec (.resume r) s = .next t
      ∧ (t.slots.get i).crusher =
          { x.crusher with motion := .idle, move := none, travel := none, settle := none, suspension := none,
                           drainLimit := none, fixedDrain := none }
      ∧ (t.slots.get i).driver.cmd = .hold ∧ (t.slots.get i).driver.out = none
      ∧ (t.slots.get i).conds = x.conds
      ∧ (x.kind = .jaw → OnLinked t i (fun f => f.inhibits.drain = false))
      ∧ ((s.ports.get r.port).tx.length + 2 ≤ 64 → (s.ports.get r.port).tx ++ replyTo s .resume r .done .noReason (.causes .zero) ::
          (adoptedEntry s r m).finalTo i r.port .failed .sensor (.moveEnded m.applied x.crusher.tf) <+: (t.ports.get r.port).tx)
      ∧ (s.change = none → OnlyCrusher (s.countRequest r.port) t i) := by
  intro x
  have hm' : ((resumedAt s r i m).crusher i).move = some (resumedMove s r m) := by rw [Ev.crusher, slot_resumedAt]
  have hout : ((resumedAt s r i m).crusher i).motion.inEpisode = false := by
    rw [Ev.crusher, slot_resumedAt, show ({ x.crusher with move := some (resumedMove s r m) } : Crusher).motion = .suspended from hmotion]; rfl
  have hmask' : ¬ (resumedAt s r i m).masked i .positionInvalid = true := by
    rw [Ev.masked, slot_resumedAt]; exact Bool.eq_false_iff.mp hmask
  have hleaves : (resumedAt s r i m).testCauses i = (resumedAt s r i m).finishMove i .failed .sensor := by
    rw [testCauses_resumedAt hmotion hsensor hstop, leaveSuspension_blind hm' hback (by rw [slot_resumedAt]; exact hvalid), if_neg hmask']
  obtain ⟨f, hf⟩ := slot_finishMove .failed .sensor hm' hout
  rw [if_neg (by decide), if_neg (by decide), slot_resumedAt] at hf
  have hleft : (((resumedAt s r i m).finishMove i .failed .sensor).1.crusher i).causesLeft = .zero := by
    rw [Ev.crusher, hf]; exact causesLeft_running Motion.noConfusion
  have htended : Tended i (Ev.of (s.countRequest r.port)) ((resumedAt s r i m).finishMove i .failed .sensor).1 :=
    tended_resumedAt.finishMove ..
  let answered := ((resumedAt s r i m).finishMove i .failed .sensor).1.answerAt 0 .resume r .done .noReason (.causes .zero)
  have hcheck : ∀ trim, answered.check i trim = answered := by
    have hslot : answered.slot i = ((resumedAt s r i m).finishMove i .failed .sensor).1.slot i := rfl
    intro trim
    refine check_nothing ?_ ?_ ?_ trim <;> rw [hslot, hf]
    · exact hquiet.1
    · exact hquiet.2.1
    · exact hquiet.2.2
  have hhandle := handle_resume hc hmotion hm hleaves hleft
  have hfollow : Ev.follow (answered, ((resumedAt s r i m).finishMove i .failed .sensor).2) i = answered := by
    unfold Ev.follow; split
    · rfl
    · exact hcheck _
  obtain ⟨hrunning, henabled, -⟩ := State.takes_spec hc.1.1
  obtain ⟨rs, hreplies, hfinal⟩ := finishMove_replies .failed .sensor hm' hout
  refine ⟨_, exec_handled hc.1 (hhandle.trans hfollow), ?crusher, ?cmd, ?outs, ?conds, ?linked, fun hlen => ?tx, fun hnone => ?frame⟩
  case crusher =>
    rw [slot_commit]
    show (((resumedAt s r i m).finishMove i .failed .sensor).1.slot i).crusher = _
    rw [hf]; rfl
  case cmd => rw [slot_commit]; exact (driver_finishMove .failed .sensor hm' hout).1
  case outs => rw [slot_commit]; exact (driver_finishMove .failed .sensor hm' hout).2
  case conds =>
    rw [slot_commit]
    show (((resumedAt s r i m).finishMove i .failed .sensor).1.slot i).conds = _
    rw [hf]
  case linked =>
    intro hjaw
    exact (onLinked_commit ..).mpr (onLinked_finishMove .failed .sensor hm' hout (by rw [slot_resumedAt]; exact hjaw))
  case tx =>
    have hreqno : ((resumedAt s r i m).finishMove i .failed .sensor).1.reqno r.port = (s.ports.get r.port).reqno + 1 := by
      rw [Ev.reqno, htended.ports]; simp
    have hraised : answered.replies = (⟨r.port, true, replyTo s .resume r .done .noReason (.causes .zero)⟩
        :: finalOf (adoptedEntry s r m) i .failed .sensor (.moveEnded m.applied x.crusher.tf)) ++ rs := by
      have htf : forceAfter (resumedMove s r m) .failed ((resumedAt s r i m).crusher i) = x.crusher.tf := by
        rw [forceAfter, if_neg (by decide), Ev.crusher, slot_resumedAt]
      simp only [answered, Ev.answerAt, Ev.immediateAt, hreqno, hreplies, htf, List.take_zero, List.drop_zero, List.nil_append]
      rfl
    have hports : answered.s.ports = (s.countRequest r.port).ports := htended.ports
    have htx := commit_tx_prefix (ev := answered) (q := r.port) (htended.phase.trans hrunning) ((htended.enabled _).trans henabled) hraised hfinal
    rw [hports] at htx
    have hone := finalOf_filter_length (adoptedEntry s r m) i r.port .failed .sensor (.moveEnded m.applied x.crusher.tf)
    simp only [List.filter_cons, beq_self_eq_true, if_true, List.length_cons, List.map_cons, finalOf_filter, State.countRequest_port] at htx
    exact htx (by omega)
  case frame => exact onlyCrusher_commit (ev := answered) (htended.alone hnone)

end

/-- Settles O33: the causes that stay decide whether the move waits, and its record where it goes on. -/
theorem resumeContinuesTheMove : Obligations.ResumeContinuesTheMove := by
  unfold Obligations.ResumeContinuesTheMove
  intro s r i hc
  refine ⟨fun h => refuses_of_handle hc.1 (handle_resume_refused hc h), fun m hmotion hm => ?_⟩
  refine ⟨fun hleft => ?waits, fun hsensor hstop => ⟨fun hback => ⟨fun p hvalid hlast => ⟨fun d hd => ?drive, fun ha => ?arrive⟩,
    fun hvalid => ⟨fun hmask => ?blind, fun hmask hquiet => ?fails⟩⟩, fun hback hcavity => ?drains⟩⟩
  case waits =>
    refine (exec_resume_waits hc hmotion hm (m' := resumedMove s r m) ?_ (testCauses_waits (by rw [Ev.crusher, slot_resumedAt]) ?_)).trans
      (congrArg (fun t => Host.Outcome.next (State.withReply t .resume r .partialDone .noReason (.causes _))) (modSlot_congr rfl)) <;>
    · refine Bool.eq_false_iff.mpr (fun h => ?_)
      obtain ⟨hsensor, hstop⟩ := (causesKept_isEmpty ..).mp h
      rcases hleft with h | h
      · exact Bool.false_ne_true (hsensor.symm.trans h)
      · exact Bool.false_ne_true (hstop.symm.trans h)
  case drive =>
    exact ((exec_resume_moving hc hmotion hm hsensor hstop hback hvalid hlast).1 d hd).trans
      (congrArg (fun t => Host.Outcome.next (State.withReply t .resume r .done .noReason (.causes _))) (modSlot_congr rfl))
  case arrive =>
    exact ((exec_resume_moving hc hmotion hm hsensor hstop hback hvalid hlast).2 ha).trans
      (congrArg (fun t => Host.Outcome.next (State.withReply t .resume r .done .noReason (.causes _))) (modSlot_congr rfl))
  case blind =>
    exact (exec_resume_blind hc hmotion hm hsensor hstop hback hvalid hmask).trans
      (congrArg (fun t => Host.Outcome.next (State.withReply t .resume r .partialDone .noReason (.causes _))) (modSlot_congr rfl))
  case fails => exact exec_resume_fails hc hmotion hm hsensor hstop hback hvalid hmask hquiet
  case drains => exact exec_resume_draining hc hmotion hm hsensor hstop hback hcavity

end Sys2Proof.Proofs
end


section
/-! PROOF. A priority entry into a full queue (R37, R38, R39, R57, R58). -/

namespace Sys2Proof.Proofs

open Sys2Proof Sys2Proof.Machine

set_option Elab.async false

/-! ### The newest entry without priority (R38) -/

section
variable {a b q : List Entry} {old : Entry}

theorem newestOrdinary_none (h : ∀ e ∈ q, e.priority = true) : newestOrdinary q = none := by
  refine List.find?_eq_none.mpr (fun e he => ?_)
  simp [h e (List.mem_reverse.mp he)]

theorem newestOrdinary_between (hold : old.priority = false) (hb : ∀ e ∈ b, e.priority = true) :
    newestOrdinary (a ++ old :: b) = some old ∧ dropNewestOrdinary (a ++ old :: b) = a ++ b := by
  have hnone : ∀ e ∈ b.reverse, ¬ (!e.priority) = true := fun e he => by simp [hb e (List.mem_reverse.mp he)]
  have hrev : (a ++ old :: b).reverse = b.reverse ++ old :: a.reverse := by simp
  refine ⟨?_, ?_⟩
  · rw [newestOrdinary, hrev, List.find?_append, List.find?_eq_none.mpr hnone, List.find?_cons_of_pos (by simp [hold]), Option.none_or]
  · rw [dropNewestOrdinary, hrev, List.eraseP_append_right _ hnone, List.eraseP_cons_of_pos (by simp [hold])]
    simp

end

/-! ### The room that is made (R38, R39) -/

/-- The event once the entry `old` has been taken out of the queue, of which `q` stays. -/
def roomMade (ev : Ev) (i : SlotId) (q : List Entry) (old : Entry) : Ev :=
  (ev.modCrusher i (fun c => { c with queue := q })).endEntry i .queueFull old

section
variable {ev : Ev} {i : SlotId} {e : Entry}

theorem makeRoom_refused (hlen : (ev.crusher i).queue.length = 4) (h : e.priority = false ∨ ∀ x ∈ (ev.crusher i).queue, x.priority = true) :
    ev.makeRoom i e = none := by
  have hfull : ¬ (ev.crusher i).queue.length < Config.queuePlaces := by rw [hlen]; decide
  unfold Ev.makeRoom
  rw [if_neg hfull]
  rcases h with h | h
  · rw [if_neg (by rw [h]; exact Bool.false_ne_true)]
  · rw [newestOrdinary_none h]
    split <;> rfl

theorem makeRoom_made (hlen : (ev.crusher i).queue.length = 4) (he : e.priority = true) {a b : List Entry} {old : Entry}
    (hq : (ev.crusher i).queue = a ++ old :: b) (hold : old.priority = false) (hb : ∀ x ∈ b, x.priority = true) :
    ev.makeRoom i e = some (roomMade ev i (a ++ b) old) := by
  have hfull : ¬ (ev.crusher i).queue.length < Config.queuePlaces := by rw [hlen]; decide
  obtain ⟨hnewest, hrest⟩ := newestOrdinary_between (a := a) hold hb
  unfold Ev.makeRoom
  rw [if_neg hfull, if_pos he, hq, hnewest, hrest]
  rfl

theorem slot_roomMade (q : List Entry) (old : Entry) :
    (roomMade ev i q old).slot i = { ev.slot i with crusher := { (ev.slot i).crusher with queue := q } } := by
  rw [roomMade, slot_endEntry, slot_modCrusher]

/-- With no line change standing, the entry's final reply is all that is raised at the ports. -/
theorem roomMade_alone (hc : ev.s.change = none) (q : List Entry) (old : Entry) :
    (roomMade ev i q old).s = (ev.modCrusher i (fun c => { c with queue := q })).s
      ∧ (roomMade ev i q old).replies = ev.replies ++ finalOf old i .discarded .queueFull .empty := by
  rw [roomMade, endEntry_none (ev := ev.modCrusher i (fun c => { c with queue := q })) hc]
  exact ⟨by simp, entryFinal_replies ..⟩

/-- The reply to a priority entry at a busy crusher whose queue was full: QUEUED, behind whatever the removed entry has raised (R38). -/
theorem addRequest_full (hm : (ev.slot i).crusher.motion ≠ .idle) (hlen : (ev.crusher i).queue.length = 4) (he : e.priority = true)
    (hadj : e.adjusted = false) {a b : List Entry} {old : Entry} (hq : (ev.crusher i).queue = a ++ old :: b) (hold : old.priority = false)
    (hb : ∀ x ∈ b, x.priority = true) (c : ReqCode) (r : Request) (v : Int) (f : RecallStack → RecallStack) :
    ev.addRequest c r i e v (fun c => { c with stack := f c.stack }) =
      ((roomMade ev i (a ++ b) old).modSlot i (joinedSlot e f)).answer c r .queued
        (if 4 ≥ (ev.slot i).cp.nearFull then .queueNear else .noReason) (.entry v false 4) := by
  let joined := (roomMade ev i (a ++ b) old).modSlot i (joinedSlot e f)
  have hslot : joined.slot i = joinedSlot e f { ev.slot i with crusher := { (ev.slot i).crusher with queue := a ++ b } } := by
    rw [slot_modSlot, slot_roomMade]
  have hcount : (joined.crusher i).queue.length = 4 := by
    rw [hq] at hlen
    rw [Ev.crusher, hslot]
    simp only [joinedSlot, insertEntry_length, List.length_append, List.length_cons] at hlen ⊢
    omega
  have hcheck : joined.check i = joined := check_busy _ _ _ (by rw [hslot]; exact hm)
  have hjoined : ((roomMade ev i (a ++ b) old).modCrusher i (fun c => { c with stack := f c.stack })).joinQueue i e = joined :=
    joinedEv_plain hadj
  have hstarted : startedEntry (joined.crusher i) (joined.crusher i) e = false := by simp [startedEntry]
  have hcp : (((roomMade ev i (a ++ b) old).modCrusher i (fun c => { c with stack := f c.stack })).slot i).cp = (ev.slot i).cp := by
    rw [slot_modCrusher, slot_roomMade]
  simp only [Ev.addRequest, makeRoom_made hlen he hq hold hb, Ev.insertRequest, hjoined, hcheck, entryReply, hstarted, hcount, hcp, hadj]
  rfl

end

/-! ### The three requests at a full queue (R38, R58) -/

section
variable {s : State} {r : Request} {i : SlotId} {code : ReqCode} {e : Entry} {v : Int} {f : RecallStack → RecallStack}

/-- What the requests come to at a full queue of a busy crusher. -/
theorem exec_full (ht : Taken s code r) (hm : (s.slots.get i).crusher.motion ≠ .idle) (hlen : (s.slots.get i).crusher.queue.length = 4)
    (he : e.priority = r.priority) (hadj : e.adjusted = false)
    (hh : Ev.handle code r (Ev.of (s.countRequest r.port))
      = (Ev.of (s.countRequest r.port)).addRequest code r i e v (fun c => { c with stack := f c.stack })) :
    let x := s.slots.get i
    let c := x.crusher
    (r.priority = false ∨ (∀ e ∈ c.queue, e.priority = true) → Refuses s code r .queueFull)
      ∧ ∀ a old b, r.priority = true → c.queue = a ++ old :: b → old.priority = false → (∀ e ∈ b, e.priority = true) →
        ∃ t, exec (code.command r) s = .next t
          ∧ (t.slots.get i).crusher = { c with queue := insertEntry (a ++ b) e, stack := f c.stack }
          ∧ (t.slots.get i).driver = x.driver
          ∧ (s.change = none → OnlyCrusher (s.countRequest r.port) t i
              ∧ ((s.ports.get r.port).tx.length + 2 ≤ 64 →
                (t.ports.get r.port).tx = (s.ports.get r.port).tx ++ old.finalTo i r.port .discarded .queueFull .empty
                  ++ [replyTo s code r .queued (if 4 ≥ x.cp.nearFull then .queueNear else .noReason) (.entry v false 4)])) := by
  intro x c
  refine ⟨fun h => refuses_of_handle ht (hh.trans ?_), fun a old b hpriority hq hold hb => ?_⟩
  · have hnone := makeRoom_refused (ev := Ev.of (s.countRequest r.port)) (i := i) (e := e) hlen (by rw [he]; exact h)
    simp only [Ev.addRequest, hnone]
  · rw [addRequest_full (ev := Ev.of (s.countRequest r.port)) hm hlen (he.trans hpriority) hadj hq hold hb] at hh
    let room := roomMade (Ev.of (s.countRequest r.port)) i (a ++ b) old
    have hslot : (room.modSlot i (joinedSlot e f)).slot i = joinedSlot e f { x with crusher := { c with queue := a ++ b } } := by
      rw [slot_modSlot, slot_roomMade]; rfl
    refine ⟨_, exec_handled ht hh, ?crusher, ?driver, fun hnone => ⟨?frame, fun hplaces => ?tx⟩⟩
    case crusher =>
      rw [slot_commit]
      show ((room.modSlot i (joinedSlot e f)).slot i).crusher = _
      rw [hslot]; rfl
    case driver =>
      rw [slot_commit]
      show ((room.modSlot i (joinedSlot e f)).slot i).driver = _
      rw [hslot]; rfl
    case frame =>
      have hroom : Worked i x.cp.linkedFeeder (s.countRequest r.port) room.s := by
        rw [(roomMade_alone (ev := Ev.of (s.countRequest r.port)) (i := i) hnone (a ++ b) old).1]
        exact worked_modCrusher (Ev.of (s.countRequest r.port)) i _
      exact onlyCrusher_commit (hroom.trans (Worked.own (f := joinedSlot e f) (fun _ => rfl)))
    case tx =>
      obtain ⟨hstate, hreplies⟩ := roomMade_alone (ev := Ev.of (s.countRequest r.port)) (i := i) hnone (a ++ b) old
      obtain ⟨hrunning, henabled, -⟩ := State.takes_spec ht.1
      have hports : room.s.ports = (s.countRequest r.port).ports := by rw [hstate]; rfl
      have hreqno : (room.modSlot i (joinedSlot e f)).reqno r.port = (s.ports.get r.port).reqno + 1 := by
        show (room.s.ports.get r.port).reqno = _
        rw [hports]; simp
      have hraised : ((room.modSlot i (joinedSlot e f)).answer code r .queued
          (if 4 ≥ x.cp.nearFull then .queueNear else .noReason) (.entry v false 4)).replies
          = finalOf old i .discarded .queueFull .empty ++ [⟨r.port, true, replyTo s code r .queued
            (if 4 ≥ x.cp.nearFull then .queueNear else .noReason) (.entry v false 4)⟩] := by
        have hroom : (room.modSlot i (joinedSlot e f)).replies = finalOf old i .discarded .queueFull .empty := hreplies
        simp only [Ev.answer, Ev.answerAt, Ev.immediateAt, hreqno, hroom, List.take_length, List.drop_length]
      have hone := finalOf_filter_length old i r.port .discarded .queueFull .empty
      have htx := commit_tx_all (ev := (room.modSlot i (joinedSlot e f)).answer code r .queued
          (if 4 ≥ x.cp.nearFull then .queueNear else .noReason) (.entry v false 4)) (q := r.port)
        (by show room.s.phase = _; rw [hstate]; exact hrunning)
        (by rw [← henabled]; show room.s.enabled r.port = _; rw [hstate]; rfl)
      rw [hraised, show ((room.modSlot i (joinedSlot e f)).answer code r .queued _ _).s.ports = _ from hports] at htx
      simp only [List.filter_append, List.filter_cons, List.filter_nil, beq_self_eq_true, if_true, List.length_append, List.length_cons, List.length_nil,
        List.map_append, List.map_cons, List.map_nil, finalOf_filter, State.countRequest_port] at htx
      exact (htx (by omega)).trans (List.append_assoc ..).symm

end

/-- Settles O29: each request comes to `addRequest` at a full queue. -/
theorem fullQueueMakesRoomForPriority : Obligations.FullQueueMakesRoomForPriority := by
  unfold Obligations.FullQueueMakesRoomForPriority
  intro s r i hu x c full hm hb hlen
  have hgate := moveGate_open hu hb
  refine ⟨fun hc hlo hhi hok => ?_, fun hc hlo hhi => ?_, fun hc o ho hlo hhi => ?_⟩
  · refine exec_full (f := id) hc.1 hm hlen rfl rfl ?_
    rw [handle_setGap hc hgate, if_pos hok, enqueueGap_inside hlo hhi]; rfl
  · refine exec_full (f := id) hc.1 hm hlen rfl rfl ?_
    rw [handle_stepGap hc hgate, if_pos ⟨hlo, hhi⟩]; rfl
  · refine exec_full (f := RecallStack.pop) hc.1 hm hlen rfl rfl ?_
    rw [handle_recallGap hc hgate]; simp only [x, c] at ho; rw [ho]
    simp only [enqueueGap_inside (ev := Ev.of (s.countRequest r.port)) hlo hhi]

end Sys2Proof.Proofs
end


section
/-! PROOF. FLUSH (R39, R51, R55, R73). -/

namespace Sys2Proof.Proofs

open Sys2Proof Sys2Proof.Machine

set_option Elab.async false

/-! ### Steps that leave the queue and the settings of a crusher -/

/-- The queue, the target in force, the recall stack, the zero point and the wear of a crusher stand. -/
structure SameSettings (c c' : Crusher) : Prop where
  queue : c'.queue = c.queue
  tf : c'.tf = c.tf
  stack : c'.stack = c.stack
  z : c'.z = c.z
  w : c'.w = c.w
  wAtMove : c'.wAtMove = c.wAtMove

theorem SameSettings.refl (c : Crusher) : SameSettings c c := ⟨rfl, rfl, rfl, rfl, rfl, rfl⟩

theorem SameSettings.trans {c c' c'' : Crusher} (h : SameSettings c c') (h' : SameSettings c' c'') : SameSettings c c'' :=
  ⟨h'.queue.trans h.queue, h'.tf.trans h.tf, h'.stack.trans h.stack, h'.z.trans h.z, h'.w.trans h.w, h'.wAtMove.trans h.wAtMove⟩

section
variable (ev : Ev) (i : SlotId)

theorem settings_finishMove_failed (r : Reason) : SameSettings (ev.crusher i) ((ev.finishMove i .failed r).1.crusher i) := by
  cases hm : (ev.crusher i).move with
  | none => rw [finishMove_none hm]; exact .refl _
  | some m =>
    cases hin : (ev.crusher i).motion.inEpisode with
    | true => rw [crusher_finishMove_episode hm hin, if_neg (by decide)]; exact ⟨rfl, rfl, rfl, rfl, rfl, rfl⟩
    | false => rw [crusher_finishMove hm hin, if_neg (by decide)]; exact ⟨rfl, rfl, rfl, rfl, rfl, rfl⟩

theorem settings_addCause (k : Cause) : SameSettings (ev.crusher i) ((ev.addCause i k).crusher i) := by
  by_cases hflight : InFlight (ev.crusher i).motion
  · rw [crusher_addCause_inFlight hflight]; exact ⟨rfl, rfl, rfl, rfl, rfl, rfl⟩
  · by_cases hwaiting : Waiting (ev.crusher i).motion
    · rw [crusher_addCause_waiting hwaiting]; exact ⟨rfl, rfl, rfl, rfl, rfl, rfl⟩
    · rw [addCause_idle hflight hwaiting]; exact .refl _

theorem settings_positionLost : SameSettings (ev.crusher i) ((ev.positionLost i).1.crusher i) := by
  have hlost : SameSettings (ev.crusher i) ((lostReading ev i).crusher i) := by
    rw [Ev.crusher, Ev.crusher, slot_lostReading]; exact ⟨rfl, rfl, rfl, rfl, rfl, rfl⟩
  cases hmask : (ev.slot i).mask.mem .positionInvalid with
  | true => rw [positionLost_masked hmask]; exact hlost.trans (settings_addCause ..)
  | false => rw [positionLost_unmasked hmask]; exact hlost.trans (settings_finishMove_failed ..)

theorem settings_enterMoving : SameSettings (ev.crusher i) ((ev.enterMoving i).1.crusher i) := by
  have hmoving : SameSettings (ev.crusher i) ((ev.setMotion i .moving).crusher i) := by
    rw [crusher_setMotion]; exact ⟨rfl, rfl, rfl, rfl, rfl, rfl⟩
  unfold Ev.enterMoving
  dsimp only
  split
  · next p _ _ =>
    refine hmoving.trans ?_
    rcases crusher_moveStep (ev.setMotion i .moving) i p with h | h <;> rw [h]
    · exact .refl _
    · exact ⟨rfl, rfl, rfl, rfl, rfl, rfl⟩
  · exact hmoving.trans (settings_positionLost ..)

/-- The start of a TRIM leaves them too: its entry has left the queue. -/
theorem settings_trim {ev : Ev} {i : SlotId} (hkind : (ev.slot i).kind = .cone) (hqueue : (ev.slot i).crusher.queue = []) (gap : Nat) :
    SameSettings (ev.crusher i) (((trimHead ev i).aim i gap).1.crusher i) := by
  have hslot := slot_trimHead hqueue
  have hhead : SameSettings (ev.crusher i) ((trimHead ev i).crusher i) := by
    rw [Ev.crusher, Ev.crusher, hslot]; exact ⟨rfl, rfl, rfl, rfl, rfl, rfl⟩
  refine hhead.trans ?_
  cases hpos : (aimAt ((trimHead ev i).slot i) gap).pos with
  | none =>
    have htold : SameSettings ((trimHead ev i).crusher i) ((reachTold (trimHead ev i) i gap).crusher i) := by
      rw [Ev.crusher, Ev.crusher, slot_reachTold]; exact .refl _
    rw [aim_unreached hpos]
    exact htold.trans (settings_finishMove_failed ..)
  | some pt =>
    have hlaunched : SameSettings ((trimHead ev i).crusher i) ((launched (trimHead ev i) i gap pt).crusher i) := by
      rw [Ev.crusher, Ev.crusher, slot_launched]; exact ⟨rfl, rfl, rfl, rfl, rfl, rfl⟩
    rw [aim_launched hpos (by rw [hslot]; exact hkind)]
    exact hlaunched.trans (settings_enterMoving ..)

/-- A start check at an empty queue does no more than block a worn slot or start a TRIM (R41, R59, R82). -/
theorem settings_check {ev : Ev} {i : SlotId} (hqueue : (ev.slot i).crusher.queue = []) (trim : Bool) :
    SameSettings (ev.crusher i) ((ev.check i trim).crusher i) := by
  by_cases hidle : (ev.slot i).crusher.motion = .idle
  case neg => rw [check_busy _ _ _ hidle]; exact .refl _
  have hq : (ev.crusher i).queue = [] := hqueue
  cases hblock : (ev.slot i).crusher.wearBlock with
  | true =>
    have hcheck : ev.check i trim = (ev.modCrusher i (fun c => { c with wearBlock := false })).enterBlocked i .wearLimit :=
      if_pos ⟨hidle, hblock⟩
    rw [hcheck, enterBlocked_crusher, crusher_modCrusher]
    exact ⟨hq.symm, rfl, rfl, rfl, rfl, rfl⟩
  | false =>
    by_cases hdue : trim = true ∧ ev.trimDue i = true
    · obtain ⟨rfl, hdue⟩ := hdue
      obtain ⟨hkind, -⟩ := (trimDue_iff ev i).mp hdue
      rw [check_trim_due hdue hblock]
      exact settings_trim hkind hqueue _
    · have hstart : ev.canStart i = false := by simp [Ev.canStart, hqueue]
      have hnothing : ev.check i trim = ev := by
        unfold Ev.check Ev.startCheck
        simp only [Ev.crusher, hblock, hstart, hqueue]
        simpa using fun h h' => absurd ⟨h, h'⟩ hdue
      rw [hnothing]
      exact .refl _

theorem settings_follow {r : Ev × Option Bool} {i : SlotId} (hqueue : (r.1.slot i).crusher.queue = []) :
    SameSettings (r.1.crusher i) ((Ev.follow r i).crusher i) := by
  unfold Ev.follow
  split
  · exact .refl _
  · exact settings_check hqueue _

end

/-! ### The discard of a whole queue (R39) -/

theorem slot_discardAll (ev : Ev) (i : SlotId) (why : Reason) :
    (ev.discardAll i why).slot i = { ev.slot i with crusher := { (ev.slot i).crusher with queue := [] } } := by
  have hall : ∀ (es : List Entry) (ev : Ev), (es.foldl (fun ev e => ev.endEntry i why e) ev).slot i = ev.slot i := by
    intro es
    induction es with
    | nil => exact fun _ => rfl
    | cons e es ih => exact fun ev => (ih _).trans (slot_endEntry ev i why e)
  unfold Ev.discardAll Ev.discardWhere Ev.dropEntries
  rw [hall, slot_modCrusher]
  simp

/-! ### FLUSH, by motion state (R55) -/

section
variable {ev : Ev} {i : SlotId}

/-- At rest and in a calibration the queue alone goes. -/
theorem flush_rest (h : (ev.crusher i).motion = .idle ∨ (ev.crusher i).motion = .calibrating ∨ ∃ b, (ev.crusher i).motion = .blocked b) :
    ev.flushSlot i = ev.discardAll i .flush := by
  have hmotion : ((ev.discardAll i .flush).crusher i).motion = (ev.crusher i).motion := by rw [crusher_discardAll]
  unfold Ev.flushSlot
  dsimp only
  rw [hmotion]
  rcases h with h | h | ⟨b, h⟩ <;> rw [h]

/-- A move in flight or suspended ends. -/
theorem flush_move (h : (ev.crusher i).motion = .draining ∨ (ev.crusher i).motion = .moving ∨ (ev.crusher i).motion = .settling
    ∨ (ev.crusher i).motion = .suspended) :
    ev.flushSlot i = Ev.follow ((ev.discardAll i .flush).finishMove i .failed .aborted) i := by
  have hmotion : ((ev.discardAll i .flush).crusher i).motion = (ev.crusher i).motion := by rw [crusher_discardAll]
  unfold Ev.flushSlot
  dsimp only
  rw [hmotion]
  rcases h with h | h | h | h <;> rw [h]

/-- In a relief episode a move that was suspended ends. -/
theorem flush_episode (h : (ev.crusher i).motion = .relief ∨ (ev.crusher i).motion = .recovering) : ev.flushSlot i =
    if (ev.crusher i).episode.any (fun e => e.returnTo == .suspended) then ((ev.discardAll i .flush).finishMove i .failed .aborted).1
    else ev.discardAll i .flush := by
  have hcrusher : (ev.discardAll i .flush).crusher i = { ev.crusher i with queue := [] } := crusher_discardAll ..
  unfold Ev.flushSlot
  dsimp only
  rw [hcrusher]
  rcases h with h | h <;> simp only [h]

theorem motion_flush_cases (m : Motion) : (m = .idle ∨ m = .calibrating ∨ ∃ b, m = .blocked b)
    ∨ (m = .draining ∨ m = .moving ∨ m = .settling ∨ m = .suspended) ∨ m = .relief ∨ m = .recovering := by
  cases m <;> simp

/-- In every state the queue is empty and the settings stay. -/
theorem settings_flush : SameSettings { ev.crusher i with queue := [] } ((ev.flushSlot i).crusher i) := by
  have hdrop : (ev.discardAll i .flush).crusher i = { ev.crusher i with queue := [] } := crusher_discardAll ..
  have hends := settings_finishMove_failed (ev.discardAll i .flush) i .aborted
  rw [hdrop] at hends
  rcases motion_flush_cases (ev.crusher i).motion with h | h | h
  · rw [flush_rest h, hdrop]; exact .refl _
  · rw [flush_move h]
    exact hends.trans (settings_follow hends.queue)
  · rw [flush_episode h]
    split
    · exact hends
    · rw [hdrop]; exact .refl _

/-- A move in flight at a slot where nothing follows it ends as R51 says. -/
theorem flush_move_ends (h : (ev.crusher i).motion = .draining ∨ (ev.crusher i).motion = .moving ∨ (ev.crusher i).motion = .settling
      ∨ (ev.crusher i).motion = .suspended) (hm : (ev.crusher i).move.isSome = true) (hblock : (ev.crusher i).wearBlock = false)
    (htrim : NoTrim (ev.slot i)) :
    (ev.flushSlot i).crusher i =
        { ev.crusher i with queue := [], motion := .idle, move := none, travel := none, settle := none, suspension := none,
                            drainLimit := none, fixedDrain := none }
      ∧ ((ev.flushSlot i).slot i).driver.cmd = .hold ∧ ((ev.flushSlot i).slot i).driver.out = none
      ∧ ((ev.slot i).kind = .jaw → OnLinked (ev.flushSlot i).s i (fun f => f.inhibits.drain = false)) := by
  obtain ⟨m, hm⟩ := Option.isSome_iff_exists.mp hm
  have hslot := slot_discardAll ev i .flush
  have hm' : ((ev.discardAll i .flush).crusher i).move = some m := by rw [Ev.crusher, hslot]; exact hm
  have hout : ((ev.discardAll i .flush).crusher i).motion.inEpisode = false := by
    have hmotion : ((ev.discardAll i .flush).crusher i).motion = (ev.crusher i).motion := by rw [crusher_discardAll]
    rw [hmotion]
    rcases h with h | h | h | h <;> rw [h] <;> rfl
  have hflush : ev.flushSlot i = ((ev.discardAll i .flush).finishMove i .failed .aborted).1 := by
    rw [flush_move h, follow_finishMove _ _ hm' hout (by rw [hslot]; exact ⟨rfl, hblock, htrim⟩)]
  rw [hflush]
  refine ⟨?_, (driver_finishMove _ _ hm' hout).1, (driver_finishMove _ _ hm' hout).2, fun hjaw => ?_⟩
  · rw [crusher_finishMove hm' hout, if_neg (by decide), crusher_discardAll]; rfl
  · exact onLinked_finishMove _ _ hm' hout (by rw [hslot]; exact hjaw)

/-- In a relief episode that would return to SUSPENDED the move it carries ends, and the episode returns to IDLE (R73). -/
theorem flush_episode_suspended (h : (ev.crusher i).motion = .relief ∨ (ev.crusher i).motion = .recovering) {e : Episode}
    (he : (ev.crusher i).episode = some e) (hback : e.returnTo = .suspended) :
    (ev.flushSlot i).crusher i = { ev.crusher i with
      queue := [], move := none, episode := some { e with returnTo := if (ev.crusher i).move.isSome then .idle else .suspended } } := by
  have hcrusher : (ev.discardAll i .flush).crusher i = { ev.crusher i with queue := [] } := crusher_discardAll ..
  have hany : (ev.crusher i).episode.any (fun e => e.returnTo == .suspended) = true := by rw [he]; simp [hback]
  rw [flush_episode h, if_pos hany]
  cases hm : (ev.crusher i).move with
  | none =>
    rw [finishMove_none (by rw [hcrusher]; exact hm), hcrusher, Option.isSome_none, if_neg Bool.false_ne_true, ← hback, ← hm]
    rw [show ({ e with returnTo := e.returnTo } : Episode) = e from rfl, ← he]
  | some m =>
    have hin : ((ev.discardAll i .flush).crusher i).motion.inEpisode = true := by
      rw [hcrusher]
      rcases h with h | h <;> simp only [h] <;> rfl
    rw [crusher_finishMove_episode (by rw [hcrusher]; exact hm) hin, if_neg (by decide), hcrusher, Option.isSome_some, if_pos rfl]
    simp only [he, Option.map_some]

theorem flush_episode_other (h : (ev.crusher i).motion = .relief ∨ (ev.crusher i).motion = .recovering) {e : Episode}
    (he : (ev.crusher i).episode = some e) (hback : e.returnTo ≠ .suspended) :
    (ev.flushSlot i).crusher i = { ev.crusher i with queue := [] } := by
  have hnone : ¬ (ev.crusher i).episode.any (fun e => e.returnTo == .suspended) = true := by rw [he]; simpa using hback
  rw [flush_episode h, if_neg hnone, crusher_discardAll]

end

/-- Settles O35: the immediate reply is raised first, and then the slot is flushed by its motion state. -/
theorem flushClearsPendingWork : Obligations.FlushClearsPendingWork := by
  unfold Obligations.FlushClearsPendingWork
  intro s r i hc x c
  obtain ⟨ht, ho, hk⟩ := hc
  let start := (Ev.of (s.countRequest r.port)).done .flush r .empty
  have hhandle : Ev.handle .flush r (Ev.of (s.countRequest r.port)) = start.flushSlot i := onCrusher_owned ho hk .flush _
  have htended : Tended i start (start.flushSlot i) := (Tended.refl i start).flushSlot
  have hsettings : SameSettings { c with queue := [] } ((start.flushSlot i).crusher i) := settings_flush (ev := start)
  have hdrop : (start.discardAll i .flush).crusher i = { c with queue := [] } := crusher_discardAll ..
  refine ⟨_, exec_handled ht hhandle, ?slot, ?tx, fun hnone => ?frame⟩
  case slot =>
    rw [slot_commit]
    refine ⟨hsettings.queue, hsettings.tf, hsettings.stack, hsettings.z, hsettings.w, hsettings.wAtMove, fun hrest => ?_, ?_, fun hin => ?_⟩
    · rw [flush_rest (ev := start) hrest]; exact hdrop
    · intro hmotion hm hblock htrim
      obtain ⟨hcrusher, hcmd, hout, hlinked⟩ := flush_move_ends (ev := start) hmotion hm hblock htrim
      exact ⟨hcrusher, hcmd, hout, fun hjaw => (onLinked_commit ..).mpr (hlinked hjaw)⟩
    · exact ⟨fun e he hback => flush_episode_suspended (ev := start) hin he hback,
        fun e he hback => flush_episode_other (ev := start) hin he hback⟩
  case tx =>
    obtain ⟨hrunning, henabled, hroom⟩ := State.takes_spec ht.1
    obtain ⟨rs, hreplies, hfinal⟩ := htended.finals
    have hstart : start.replies = [⟨r.port, true, replyTo s .flush r .done .noReason .empty⟩] := by
      have hreqno : (Ev.of (s.countRequest r.port)).reqno r.port = (s.ports.get r.port).reqno + 1 := by
        rw [Ev.reqno, Ev.of, State.countRequest_port]
      simp only [start, Ev.done, Ev.answer, Ev.answerAt, Ev.immediateAt, hreqno, replyTo]
      rfl
    have htx := commit_tx_prefix (ev := start.flushSlot i) (q := r.port) (htended.phase.trans hrunning) ((htended.enabled _).trans henabled)
      hreplies hfinal
    rw [htended.ports, hstart] at htx
    simp only [List.filter_cons, beq_self_eq_true, if_true, List.filter_nil, List.map_cons, List.map_nil, List.length_singleton] at htx
    have hport : (start.s.ports.get r.port).tx = (s.ports.get r.port).tx := by
      show ((s.countRequest r.port).ports.get r.port).tx = _
      rw [State.countRequest_port]
    rw [hport] at htx
    exact htx (by omega)
  case frame => exact onlyCrusher_commit (s := s.countRequest r.port) (htended.alone hnone)

end Sys2Proof.Proofs
end


section
/-! PROOF. RELEASE: what becomes of the queue and the move of a slot given up (R48, R122, R125). -/

namespace Sys2Proof.Proofs

open Sys2Proof Sys2Proof.Machine

set_option Elab.async false

/-! ### The work of an event -/

/-- The end of an event of the slots' work. -/
theorem onlyWork_commit {s : State} {ev : Ev} (hrest : ev.s = { s with slots := ev.s.slots, dirty := ev.s.dirty, change := ev.s.change })
    (hslot : ∀ j, ev.slot j = { s.slots.get j with
      crusher := ev.crusher j, driver := (ev.slot j).driver, conds := (ev.slot j).conds, feeder := ev.feeder j }) :
    OnlyWork s ev.commit := by
  have hclock : ev.s.clock = s.clock := by rw [hrest]
  refine ⟨?_, commit_heard (by rw [hrest]), fun j => ?_⟩
  · rw [Ev.commit_eq]
    conv_lhs => rw [hrest]
    dsimp only
    rw [hclock]
  · rw [slot_commit]; exact hslot j

theorem slot_modSlot_ne (ev : Ev) {i j : SlotId} (f : Slot → Slot) (hj : j ≠ i) : (ev.modSlot i f).slot j = ev.slot j :=
  State.modSlot_slot_ne _ _ hj

/-! ### A change of holder away from a port (R125) -/

section
variable (ev : Ev) (i : SlotId) (p : Port)

theorem handoverEntries_s : (ev.handoverEntries i p).s =
    (ev.modCrusher i (fun c => { c with queue := c.queue.filter (fun e => e.origin != .port p) })).s := by
  have hall : ∀ (es : List Entry) (ev : Ev), (es.foldl (fun ev e => ev.announceDiscard i .handover e) ev).s = ev.s := by
    intro es
    induction es with
    | nil => exact fun _ => rfl
    | cons e es ih => exact fun ev => (ih _).trans (by simp)
  exact hall _ _

theorem slot_handoverEntries : (ev.handoverEntries i p).slot i = { ev.slot i with
    crusher := { (ev.slot i).crusher with queue := (ev.slot i).crusher.queue.filter (fun e => e.origin != .port p) } } := by
  rw [Ev.slot, handoverEntries_s]
  exact slot_modCrusher ..

/-- The item that fails there has a terminal state before the line change goes on. -/
theorem slot_changeHandover : (ev.changeHandover i p).slot i = ev.slot i := by
  unfold Ev.changeHandover
  split
  · split
    · exact slot_advanceChange (setItem_terminal rfl _)
    · rfl
  · rfl

theorem slot_handover : (ev.handover i p).slot i = ((ev.handoverEntries i p).handoverMove i p).slot i := slot_changeHandover ..

/-- A move of another origin goes on. -/
theorem handoverMove_other {ev : Ev} (h : ∀ m, (ev.crusher i).move = some m → m.entry.origin ≠ .port p) : ev.handoverMove i p = ev := by
  refine if_neg ?_
  cases hm : (ev.crusher i).move with
  | none => exact Bool.false_ne_true
  | some m => simpa using h m hm

theorem handoverMove_own {ev : Ev} {m : MoveRec} (hm : (ev.crusher i).move = some m) (h : m.entry.origin = .port p) :
    ev.handoverMove i p = ev.addCause i .handover := if_pos (by rw [hm]; simpa using h)

/-- A cause that joins the move of one crusher leaves the other slots. -/
theorem slot_addCause_other {j : SlotId} (hj : j ≠ i) (k : Cause) : (ev.addCause i k).slot j = ev.slot j := by
  by_cases hflight : InFlight (ev.crusher i).motion
  · rw [addCause_inFlight hflight, slot_modSlot_ne _ _ hj]
  · by_cases hwaiting : Waiting (ev.crusher i).motion
    · rw [addCause_waiting hwaiting]
      exact slot_modSlot_ne _ _ hj
    · rw [addCause_idle hflight hwaiting]

/-- With no line change standing the other slots stay as they are. -/
theorem slot_handover_other {ev : Ev} {j : SlotId} (hj : j ≠ i) (hc : ev.s.change = none) : (ev.handover i p).slot j = ev.slot j := by
  have hentries : (ev.handoverEntries i p).slot j = ev.slot j := by
    rw [Ev.slot, handoverEntries_s]
    exact slot_modSlot_ne _ _ hj
  have hmove : ((ev.handoverEntries i p).handoverMove i p).slot j = ev.slot j := by
    unfold Ev.handoverMove
    split
    · rw [slot_addCause_other _ _ hj, hentries]
    · exact hentries
  have hnone : ((ev.handoverEntries i p).handoverMove i p).s.change = none :=
    (((Tended.refl i ev).handoverEntries p).handoverMove p).change_none hc
  have hstays : ev.handover i p = (ev.handoverEntries i p).handoverMove i p := by
    unfold Ev.handover Ev.changeHandover
    rw [hnone]
  rw [hstays, hmove]

end

/-! ### RELEASE of one slot (R122) -/

section
variable {s : State} {r : Request} {i : SlotId}

/-- The event of the slot given up, before the reply and the AUTHORITY notice. -/
def givenUp (s : State) (r : Request) (i : SlotId) : Ev :=
  ((Ev.of (s.countRequest r.port)).modSlot i (fun x => { x with holder := none })).handover i r.port

theorem handle_release (hslot : r.slot = 0xFF) (hset : slotIds.filter (fun i => (byteAt r.payload 0).getLsbD i.val) = [i])
    (hholder : (s.slots.get i).holder = some r.port) (hremote : s.localStation i ≠ some r.port) :
    ∃ ev, Ev.handle .release r (Ev.of (s.countRequest r.port)) = ev ∧ ev.s = (givenUp s r i).s := by
  have hmine : ((slotSetAt r.payload 0).slots.filter (fun i => ((Ev.of (s.countRequest r.port)).slot i).holder == some r.port)) = [i] := by
    rw [show (slotSetAt r.payload 0).slots = [i] from hset]
    exact List.filter_eq_self.mpr (by simpa using hholder)
  have hfree : (if (Ev.of (s.countRequest r.port)).s.localStation i = some r.port then some Reason.localMode else none) = none := if_neg hremote
  have hempty : (slotSetAt r.payload 0).slots.isEmpty = false := by rw [show (slotSetAt r.payload 0).slots = [i] from hset]; rfl
  have hscope : lineScope r = none := if_pos hslot
  have hgiven : (Ev.of (s.countRequest r.port)).setHolder i none .release =
      (givenUp s r i).notify (some i) (.authority (some r.port) none .release) := by
    have hbefore : ((Ev.of (s.countRequest r.port)).slot i).holder = some r.port := hholder
    unfold Ev.setHolder
    dsimp only
    rw [hbefore, if_neg (Option.some_ne_none _)]
    rfl
  refine ⟨_, rfl, ?_⟩
  show ((Ev.of (s.countRequest r.port)).onRelease r).s = _
  unfold Ev.onRelease
  dsimp only
  rw [hscope, hempty]
  simp only [Ev.unless, Option.none_or, Bool.false_eq_true, if_false]
  rw [hmine]
  simp only [grantedSlots, refusedSlots, List.filter_cons, List.filter_nil, List.filterMap_cons, List.filterMap_nil, hfree]
  simp [Ev.answerSlots, Ev.each, hgiven]

end

/-- Settles O21: the entries of the sender leave the queue, and its move takes the cause HANDOVER. -/
theorem handoverKeepsTheMove : Obligations.HandoverKeepsTheMove := by
  unfold Obligations.HandoverKeepsTheMove
  intro s r i ht hslot hset hholder hremote x c
  obtain ⟨ev, hhandle, hs⟩ := handle_release hslot hset hholder hremote
  let start := (Ev.of (s.countRequest r.port)).modSlot i (fun x => { x with holder := none })
  let dropped := start.handoverEntries i r.port
  have hevslot : ∀ j, ev.slot j = (start.handover i r.port).slot j := fun j => by rw [Ev.slot, hs]; rfl
  have hstart : start.slot i = { x with holder := none } := slot_modSlot ..
  have hdropped : dropped.slot i =
      { x with holder := none, crusher := { c with queue := c.queue.filter (fun e => e.origin != .port r.port) } } := by
    rw [slot_handoverEntries, hstart]
  have hmove : (dropped.crusher i).move = c.move := by rw [Ev.crusher, hdropped]
  have hmotion : (dropped.crusher i).motion = c.motion := by rw [Ev.crusher, hdropped]
  have hend : ev.commit.slots.get i = (dropped.handoverMove i r.port).slot i := by
    rw [slot_commit, hevslot, slot_handover]
  have hqueue : ((dropped.handoverMove i r.port).slot i).crusher.queue = c.queue.filter (fun e => e.origin != .port r.port) := by
    have hkept : ((dropped.handoverMove i r.port).crusher i).queue = (dropped.crusher i).queue := by
      unfold Ev.handoverMove
      split
      · exact (settings_addCause ..).queue
      · rfl
    rw [show ((dropped.handoverMove i r.port).slot i).crusher = (dropped.handoverMove i r.port).crusher i from rfl, hkept, Ev.crusher, hdropped]
  have hclock : dropped.s.clock = s.clock := ((Tended.refl i start).handoverEntries _).clock
  have hleft : dropped.s.remaining c.travel = s.remaining c.travel := by simp only [State.remaining, hclock]
  have htended : Tended i start (start.handover i r.port) := (Tended.refl i start).handover _
  refine ⟨_, exec_handled ht hhandle, ?holder, ?queue, fun hother => ?other, fun m hm hown => ⟨fun hflight => ?flight, fun hwaiting => ?waiting⟩,
    fun hnone j hj => ?aside, ?frame⟩
  case holder => rw [slot_commit, hevslot, htended.slot i, hstart]
  case queue => rw [hend]; exact hqueue
  case other =>
    rw [hend, handoverMove_other _ _ (by rw [hmove]; exact hother), hdropped]
  case flight =>
    rw [hend, hqueue, handoverMove_own _ _ (hmove.trans hm) hown, addCause_inFlight (by rw [hmotion]; exact hflight), slot_modSlot, hdropped]
    refine ⟨?_, Slot.command_hold ..⟩
    simp only [suspendSlot, suspendedBy, Crusher.stopMoveTimers, show c.move = some m from hm, Option.map_some, hclock, hleft]
    rfl
  case waiting =>
    rw [hend, hqueue, handoverMove_own _ _ (hmove.trans hm) hown, addCause_waiting (by rw [hmotion]; exact hwaiting)]
    simp only [Ev.onMove, slot_modCrusher, hdropped, show c.move = some m from hm, Option.map_some]
    rfl
  case aside =>
    rw [slot_commit, hevslot, slot_handover_other _ _ hj hnone]
    exact slot_modSlot_ne _ _ hj
  case frame =>
    exact onlyWork_commit (by rw [hs]; exact htended.rest) (fun j => by rw [Ev.crusher, Ev.feeder, hevslot]; exact htended.slot j)

end Sys2Proof.Proofs
end


section
/-! PROOF. The line stop at the crushers (R48, R53, R94). -/

namespace Sys2Proof.Proofs

open Sys2Proof Sys2Proof.Machine

set_option Elab.async false

/-! ### What the steps of an end make of the slot itself, its feeder record aside -/

section
variable (ev : Ev) (i : SlotId)

theorem slot_enterBlocked (b : BlockCause) : ∃ f, (ev.enterBlocked i b).slot i = { (ev.slot i).command ev.now .hold with
    crusher := { (ev.slot i).crusher.stopMoveTimers with motion := .blocked b, queue := [] }, feeder := f } := by
  have hblocked : (((ev.stopMotion i).setMotion i (.blocked b)).discardAll i (if b = .trampRepeat then .trampRepeat else .blocked)).slot i =
      { (ev.slot i).command ev.now .hold with crusher := { (ev.slot i).crusher.stopMoveTimers with motion := .blocked b, queue := [] } } := by
    rw [slot_discardAll, Ev.setMotion, slot_modCrusher, slot_stopMotion]
  unfold Ev.enterBlocked
  dsimp only
  split
  · obtain ⟨f, hf⟩ := raiseLinked_slot (ev := ((ev.stopMotion i).setMotion i (.blocked b)).discardAll i
      (if b = .trampRepeat then .trampRepeat else .blocked)) (i := i) .calibrate i
    exact ⟨f, by rw [hf, hblocked]⟩
  · exact ⟨_, hblocked⟩

theorem slot_finalReply (p : Port) (a : Bool) (r : Reply) : (ev.finalReply p a r).slot i = ev.slot i :=
  congrArg (fun s : State => s.slots.get i) (Ev.finalReply_s ..)

theorem slot_endCal {ev : Ev} {i : SlotId} {run : CalRun} (h : (ev.crusher i).cal = some run) (d : Disposition) (r : Reason) :
    ∃ f, (ev.endCal i d r).slot i = { (ev.slot i).command ev.now .hold with
      crusher := { (ev.slot i).crusher.stopMoveTimers with cal := none, motion := .idle }, feeder := f } := by
  obtain ⟨f, hf⟩ := lowerLinked_slot (ev := ev.stopMotion i) (i := i) .calibrate i
  rw [slot_stopMotion] at hf
  refine ⟨f, ?_⟩
  simp only [Ev.endCal, h]
  rw [Ev.setMotion, slot_modCrusher, slot_notify, slot_finalReply, slot_modCrusher, hf]

/-- While the line stop or the slot's own lockout stands, a start check does no more than block a worn slot (R41, R59, R82). -/
theorem check_barred {ev : Ev} {i : SlotId} (h : (ev.slot i).lockout.state = true ∨ ev.s.lineStop.state = true) (trim : Bool) :
    ev.check i trim = if (ev.slot i).crusher.motion = .idle ∧ (ev.slot i).crusher.wearBlock = true
      then (ev.modCrusher i (fun c => { c with wearBlock := false })).enterBlocked i .wearLimit else ev := by
  have hstart : ev.canStart i = false := by
    rcases h with h | h <;> simp [Ev.canStart, h]
  have hdue : ev.trimDue i = false := by
    rcases h with h | h <;> simp [Ev.trimDue, h]
  show ev.startCheck (_ + 1) i trim = _
  rw [Ev.startCheck]
  simp only [Ev.crusher, hstart, hdue]
  simp

/-- There a slot at rest is blocked where its wear block stands, and stays as it is elsewhere. -/
theorem check_barred_sound {ev : Ev} {i : SlotId} (h : (ev.slot i).lockout.state = true ∨ ev.s.lineStop.state = true)
    (hblock : (ev.slot i).crusher.wearBlock = false) : ev.check i = ev := by
  rw [check_barred h, if_neg (fun hworn => Bool.false_ne_true (hblock.symm.trans hworn.2))]

theorem slot_check_worn {ev : Ev} {i : SlotId} (h : (ev.slot i).lockout.state = true ∨ ev.s.lineStop.state = true)
    (hidle : (ev.slot i).crusher.motion = .idle) (hblock : (ev.slot i).crusher.wearBlock = true) :
    ∃ f, (ev.check i).slot i = { (ev.slot i).command ev.now .hold with
      crusher := { (ev.slot i).crusher.stopMoveTimers with wearBlock := false, motion := .blocked .wearLimit, queue := [] }, feeder := f } := by
  obtain ⟨f, hf⟩ := slot_enterBlocked (ev.modCrusher i (fun c => { c with wearBlock := false })) i .wearLimit
  rw [slot_modCrusher] at hf
  exact ⟨f, by rw [check_barred h, if_pos ⟨hidle, hblock⟩, hf]; rfl⟩

end

/-! ### The turns of the slots (R127) -/

/-- The work of the slots at an event: of the part's slots only crushers, drivers, condition sets and feeders change. -/
structure LineWork (ev ev' : Ev) : Prop where
  rest : ev'.s = { ev.s with slots := ev'.s.slots, dirty := ev'.s.dirty, change := ev'.s.change }
  slot : ∀ j, ev'.slot j = { ev.slot j with
    crusher := ev'.crusher j, driver := (ev'.slot j).driver, conds := (ev'.slot j).conds, feeder := ev'.feeder j }

theorem LineWork.refl (ev : Ev) : LineWork ev ev := ⟨rfl, fun _ => rfl⟩

theorem LineWork.trans {ev ev' ev'' : Ev} (h : LineWork ev ev') (h' : LineWork ev' ev'') : LineWork ev ev'' where
  rest := by rw [h'.rest, h.rest]
  slot j := by rw [h'.slot j, h.slot j]

/-- The turn of slot `j` leaves the crushers and drivers of the others. -/
structure Turn (j : SlotId) (ev ev' : Ev) : Prop where
  work : LineWork ev ev'
  aside : ∀ i, i ≠ j → ev'.crusher i = ev.crusher i ∧ (ev'.slot i).driver = (ev.slot i).driver

section
variable {f : Ev → SlotId → Ev} (hturn : ∀ ev j, Turn j ev (f ev j))
include hturn

theorem each_work : ∀ (l : List SlotId) (ev : Ev), LineWork ev (ev.each l f)
  | [], ev => .refl ev
  | j :: l, ev => (hturn ev j).work.trans (each_work l (f ev j))

theorem each_aside {i : SlotId} : ∀ (l : List SlotId) (ev : Ev), i ∉ l →
    (ev.each l f).crusher i = ev.crusher i ∧ ((ev.each l f).slot i).driver = (ev.slot i).driver
  | [], _, _ => ⟨rfl, rfl⟩
  | j :: l, ev, hi => by
    obtain ⟨hj, hl⟩ := List.ne_and_not_mem_of_not_mem_cons hi
    obtain ⟨hcrusher, hdriver⟩ := (hturn ev j).aside i hj
    obtain ⟨hcrusher', hdriver'⟩ := each_aside l (f ev j) hl
    exact ⟨hcrusher'.trans hcrusher, hdriver'.trans hdriver⟩

/-- A slot's crusher and driver are what its own turn makes of them. -/
theorem each_turn {i : SlotId} (l : List SlotId) : ∀ ev : Ev, l.Nodup → i ∈ l →
    ∃ ev', LineWork ev ev' ∧ ev'.crusher i = ev.crusher i ∧ (ev.each l f).crusher i = (f ev' i).crusher i
      ∧ ((ev.each l f).slot i).driver = ((f ev' i).slot i).driver := by
  induction l with
  | nil => exact fun _ _ hi => absurd hi List.not_mem_nil
  | cons j l ih =>
    intro ev hnodup hi
    obtain ⟨hj, hl⟩ := List.nodup_cons.mp hnodup
    by_cases hij : i = j
    · subst hij
      exact ⟨ev, .refl ev, rfl, each_aside hturn l (f ev i) hj⟩
    · obtain ⟨ev', hwork, hcrusher, hend⟩ := ih (f ev j) hl (List.mem_of_ne_of_mem hij hi)
      exact ⟨ev', (hturn ev j).work.trans hwork, hcrusher.trans ((hturn ev j).aside i hij).1, hend⟩

end

/-- The line stop reaches a slot (R53, R104). -/
def lineStopAt (ev : Ev) (i : SlotId) : Ev :=
  match (ev.slot i).kind with
  | .jaw | .cone => ev.lineStopCrusher i
  | .feeder => if (ev.feeder i).run = .running then ev.enterRun i .stopped .lineStop else ev
  | .unused => ev

theorem lineStopAsserted_eq (ev : Ev) : ev.lineStopAsserted = (ev.notify none (.lineStop true)).each slotIds lineStopAt := rfl

theorem lineStopAt_crusher {ev : Ev} {i : SlotId} (h : (ev.slot i).kind.isCrusher = true) : lineStopAt ev i = ev.lineStopCrusher i := by
  unfold lineStopAt
  split
  · rfl
  · rfl
  · next hk => rw [hk] at h; cases h
  · next hk => rw [hk] at h; cases h

theorem turn_tended {i : SlotId} {ev ev' : Ev} (h : Tended i ev ev') : Turn i ev ev' := ⟨⟨h.rest, h.slot⟩, h.aside⟩

theorem enterRun_stopped_s (ev : Ev) (i : SlotId) (c : FeederCause) :
    (ev.enterRun i .stopped c).s = (ev.modFeeder i (·.enter .stopped none none)).s := by
  unfold Ev.enterRun
  dsimp only
  split
  · rfl
  · simp

theorem turn_stopped (ev : Ev) (i : SlotId) (c : FeederCause) : Turn i ev (ev.enterRun i .stopped c) := by
  have hown : (ev.enterRun i .stopped c).slot i = { ev.slot i with feeder := (ev.slot i).feeder.enter .stopped none none } := by
    rw [Ev.slot, enterRun_stopped_s]
    exact slot_modSlot ..
  have hother : ∀ j, j ≠ i → (ev.enterRun i .stopped c).slot j = ev.slot j := fun j hj => by
    rw [Ev.slot, enterRun_stopped_s]
    exact slot_modSlot_ne _ _ hj
  refine ⟨⟨by rw [enterRun_stopped_s]; rfl, fun j => ?_⟩, fun j hj => ?_⟩
  · by_cases hj : j = i
    · subst hj; rw [Ev.crusher, Ev.feeder, hown]
    · rw [Ev.crusher, Ev.feeder, hother j hj]
  · rw [Ev.crusher, hother j hj]; exact ⟨rfl, rfl⟩

theorem turn_lineStopAt (ev : Ev) (i : SlotId) : Turn i ev (lineStopAt ev i) := by
  unfold lineStopAt
  split
  · exact turn_tended (Tended.refl i ev).lineStopCrusher
  · exact turn_tended (Tended.refl i ev).lineStopCrusher
  · split
    · exact turn_stopped ..
    · exact turn_tended (.refl i ev)
  · exact turn_tended (.refl i ev)

/-! ### The turn of a crusher (R53, R94) -/

section
variable {ev : Ev} {i : SlotId}

theorem lineStopCrusher_addCause (h : (ev.crusher i).motion ≠ .calibrating) : ev.lineStopCrusher i = ev.addCause i .lineStop := by
  unfold Ev.lineStopCrusher
  split
  · next hm => exact absurd hm h
  · rfl

/-- A calibration ends with the drive at HOLD, and the start check may only block a worn slot. -/
theorem lineStopCrusher_calibrating (h : (ev.crusher i).motion = .calibrating) {run : CalRun} (hcal : (ev.crusher i).cal = some run)
    (hstop : ev.s.lineStop.state = true) :
    let y := (ev.lineStopCrusher i).slot i
    y.crusher.cal = none ∧ y.driver.cmd = .hold ∧ y.driver.out = none
      ∧ y.crusher.motion = if (ev.slot i).crusher.wearBlock then .blocked .wearLimit else .idle := by
  intro y
  obtain ⟨f, hf⟩ := slot_endCal hcal .failed .lineStop
  have hstop' : (ev.endCal i .failed .lineStop).s.lineStop.state = true := by
    rw [((Tended.refl i ev).endCal ..).lineStop]; exact hstop
  have hfail : ev.lineStopCrusher i = (ev.endCal i .failed .lineStop).check i := by
    unfold Ev.lineStopCrusher Ev.failCal; simp only [h]
  cases hblock : (ev.slot i).crusher.wearBlock with
  | true =>
    obtain ⟨f', hf'⟩ := slot_check_worn (i := i) (.inr hstop') (by rw [hf]) (by rw [hf]; exact hblock)
    rw [hf] at hf'
    have hy : y = _ := (congrArg (Ev.slot · i) hfail).trans hf'
    rw [hy]
    exact ⟨rfl, (Slot.command_hold ..).1, (Slot.command_hold ..).2, rfl⟩
  | false =>
    have hsound := check_barred_sound (i := i) (.inr hstop') (by rw [hf]; exact hblock)
    have hy : y = _ := (congrArg (Ev.slot · i) (hfail.trans hsound)).trans hf
    rw [hy]
    exact ⟨rfl, (Slot.command_hold ..).1, (Slot.command_hold ..).2, rfl⟩

end

/-- Settles O25: every crusher's turn gives its move the cause LINE_STOP or ends its calibration, and the other turns leave it. -/
theorem lineStopSuspendsTheMoves : Obligations.LineStopSuspendsTheMoves := by
  unfold Obligations.LineStopSuspendsTheMoves
  intro s d hlaw hrunning htimer hraw hstate
  let start := (Ev.of { s.reach d with lineStop := ⟨true, true, none⟩ }).notify none (.lineStop true)
  have hexec : exec (.debounceExpiry .lineStop) s = .next (start.each slotIds lineStopAt).commit := by
    show execDebounceExpiry .lineStop s = _
    unfold execDebounceExpiry
    simp only [State.discrete, State.setDiscrete, htimer, hraw, hstate, hrunning]
    exact congrArg (fun ev : Ev => Host.Outcome.next ev.commit) (lineStopAsserted_eq _)
  refine ⟨_, hexec, ?frame, fun i hk => ?slot⟩
  case frame =>
    have hwork := each_work turn_lineStopAt slotIds start
    have hframe : OnlyWork { s.reach d with lineStop := ⟨true, true, none⟩ } (start.each slotIds lineStopAt).commit :=
      onlyWork_commit hwork.rest hwork.slot
    exact hframe
  case slot =>
    intro c x' c'
    obtain ⟨ev, hwork, hcrusher, hend, hdrive⟩ := each_turn turn_lineStopAt slotIds start (by decide) (mem_slotIds i)
    have hkind : (ev.slot i).kind.isCrusher = true := by rw [hwork.slot i]; exact hk
    have hstop : ev.s.lineStop.state = true := by rw [show ev.s.lineStop = start.s.lineStop by rw [hwork.rest]]; rfl
    have hclock : ev.s.clock = max s.clock d := by rw [hwork.rest]; rfl
    have hcp : (ev.slot i).cp = (s.slots.get i).cp := by rw [hwork.slot i]; rfl
    have hc : ev.crusher i = c := hcrusher
    rw [lineStopAt_crusher hkind] at hend hdrive
    have hc' : c' = (ev.lineStopCrusher i).crusher i := (congrArg Slot.crusher (slot_commit ..)).trans hend
    have hx' : x'.driver = ((ev.lineStopCrusher i).slot i).driver := (congrArg Slot.driver (slot_commit ..)).trans hdrive
    refine ⟨fun hflight => ?flight, fun hwaiting => ?waiting, fun hcal => ?calibrating, fun hrest => ?rest⟩
    case flight =>
      have hm : InFlight (ev.crusher i).motion := by rw [hc]; exact hflight
      have hcause := lineStopCrusher_addCause (ev := ev) (i := i) (by rcases hm with h | h | h <;> rw [h] <;> exact Motion.noConfusion)
      have hcrusher' := hc'.trans (by rw [hcause, crusher_addCause_inFlight hm, hc])
      have hleft : ev.s.remaining c.travel = (s.reach d).remaining c.travel := by simp only [State.remaining, hclock]; rfl
      have hhold : x'.driver.cmd = .hold ∧ x'.driver.out = none := by
        rw [hx', hcause, addCause_inFlight hm, slot_modSlot]
        exact Slot.command_hold ..
      rw [hcrusher', hclock, hcp, hleft]
      exact ⟨rfl, hhold.1, hhold.2, rfl, rfl, rfl, rfl, rfl, rfl, rfl⟩
    case waiting =>
      have hm : Waiting (ev.crusher i).motion := by rw [hc]; exact hwaiting
      rw [hc', lineStopCrusher_addCause (by rcases hm with h | h | h <;> rw [h] <;> exact Motion.noConfusion), crusher_addCause_waiting hm, hc]
      rfl
    case calibrating =>
      have hfits := (motionLaw_iff hrunning).mp hlaw i hk
      have hcal' : c.cal.isSome = true := by
        have hcoherent := hfits.coherent
        unfold MotionCoherent at hcoherent
        rw [show (s.slots.get i).crusher.motion = .calibrating from hcal] at hcoherent
        exact hcoherent.2.1
      obtain ⟨run, hrun⟩ := Option.isSome_iff_exists.mp hcal'
      obtain ⟨hcalnone, hcmd, -, hmotion⟩ := lineStopCrusher_calibrating (ev := ev) (i := i) (by rw [hc]; exact hcal) (by rw [hc]; exact hrun) hstop
      rw [hc', hx']
      exact ⟨hcalnone, hcmd, hmotion.trans (by rw [show (ev.slot i).crusher = c from hc])⟩
    case rest =>
      rw [hc', lineStopCrusher_addCause (by rw [hc]; rcases hrest with h | ⟨b, h⟩ <;> rw [h] <;> exact Motion.noConfusion),
        addCause_idle (by rw [hc]; rcases hrest with h | ⟨b, h⟩ <;> simp [InFlight, h])
          (by rw [hc]; rcases hrest with h | ⟨b, h⟩ <;> simp [Waiting, h]), hc]

end Sys2Proof.Proofs
end


section
/-! PROOF. What the end of a crusher's work tells of its linked feeder, and what it leaves (R39, R51, R94, R108, R117). -/

namespace Sys2Proof.Proofs

open Sys2Proof Sys2Proof.Machine

set_option Elab.async false

/-! ### One notice in the place of several (R117) -/

section
variable {p : Notice → Bool} {body : NoticeBody} (hp : ∀ n, p n = true → p { n with body := body } = true)
include hp

/-- The notices of other kinds stay. -/
theorem oneNotice_others (ns : List Notice) : (oneNotice p body ns).filter (fun n => !p n) = ns.filter (fun n => !p n) := by
  induction ns with
  | nil => rfl
  | cons n ns ih =>
    by_cases hn : p n = true
    · rw [oneNotice, if_pos hn, List.filter_cons_of_neg (by simpa using hp n hn), List.filter_cons_of_neg (by simpa using hn),
        List.filter_filter]
      simp
    · rw [oneNotice, if_neg hn, List.filter_cons_of_pos (by simpa using hn), List.filter_cons_of_pos (by simpa using hn), ih]

theorem oneNotice_single (ns : List Notice) (h : ns.any p = true) : ∃ n, (oneNotice p body ns).filter p = [n] ∧ n.body = body := by
  induction ns with
  | nil => cases h
  | cons n ns ih =>
    by_cases hn : p n = true
    · refine ⟨{ n with body := body }, ?_, rfl⟩
      rw [oneNotice, if_pos hn, List.filter_cons_of_pos (hp n hn), List.filter_filter]
      simp
    · rw [oneNotice, if_neg hn, List.filter_cons_of_neg hn]
      refine ih ?_
      rw [List.any_cons] at h
      simpa [hn] using h

end

/-- Each of its notices is one of the others, or carries the one body. -/
theorem mem_oneNotice {p : Notice → Bool} {body : NoticeBody} {ns : List Notice} {n : Notice} (h : n ∈ oneNotice p body ns) :
    n ∈ ns ∨ n.body = body := by
  induction ns with
  | nil => cases h
  | cons m ms ih =>
    rw [oneNotice] at h
    split at h
    · rcases List.mem_cons.mp h with rfl | h
      · exact .inr rfl
      · exact .inl (List.mem_cons_of_mem _ (List.mem_of_mem_filter h))
    · rcases List.mem_cons.mp h with rfl | h
      · exact .inl List.mem_cons_self
      · exact (ih h).imp_left (List.mem_cons_of_mem _)

/-! ### The FEEDER_STATE notices of an event (R117) -/

/-- The notices of an event that are no FEEDER_STATE of feeder `f`. -/
def others (f : SlotId) (ev : Ev) : List Notice := ev.notices.filter (fun n => !n.isFeederState f)

/-- Every notice of the event goes to every port. -/
def AllOffered (ev : Ev) : Prop := ∀ n ∈ ev.notices, ∀ p, n.offeredTo p = true

/-- The event has raised a FEEDER_STATE of feeder `f`. -/
abbrev TellsOf (f : SlotId) (ev : Ev) : Prop := ev.notices.any (·.isFeederState f) = true

theorem isFeederState_body (n : Notice) (f : SlotId) (g : Feeder) (c : FeederCause) (h : n.isFeederState f = true) :
    ({ n with body := g.noticeBody c } : Notice).isFeederState f = true := by
  unfold Notice.isFeederState at h ⊢
  split at h
  · exact h
  · cases h

section
variable (ev : Ev) (f : SlotId) (c : FeederCause)

theorem isFeederState_notice : (⟨ev.s.lineClock, some f, (ev.feeder f).noticeBody c⟩ : Notice).isFeederState f = true := by
  simp [Notice.isFeederState, Feeder.noticeBody]

theorem others_feederNotice : others f (ev.feederNotice f c) = others f ev := by
  simp [others, Ev.feederNotice, Ev.notify, isFeederState_notice]

theorem others_mergedNotice : others f (ev.mergedNotice f c) = others f ev := by
  unfold Ev.mergedNotice
  split
  · exact oneNotice_others (fun n => isFeederState_body n f _ c) _
  · exact others_feederNotice ..

/-- After a merge the event tells of the feeder once, with its state as it stands. -/
theorem mergedNotice_single : ∃ n, (ev.mergedNotice f c).notices.filter (·.isFeederState f) = [n] ∧ n.body = (ev.feeder f).noticeBody c := by
  cases hany : ev.notices.any (·.isFeederState f) with
  | true =>
    unfold Ev.mergedNotice
    rw [if_pos hany]
    exact oneNotice_single (fun n => isFeederState_body n f _ c) _ hany
  | false =>
    have hnone : ev.notices.filter (·.isFeederState f) = [] := by
      rw [List.filter_eq_nil_iff]
      intro n hn h
      rw [List.any_eq_false] at hany
      exact hany n hn h
    rw [Ev.mergedNotice_first _ _ _ hany]
    exact ⟨⟨ev.s.lineClock, some f, (ev.feeder f).noticeBody c⟩,
      by simp [Ev.feederNotice, Ev.notify, List.filter_append, hnone, isFeederState_notice], rfl⟩

theorem allOffered_feederNotice {ev : Ev} (h : AllOffered ev) : AllOffered (ev.feederNotice f c) := by
  intro n hn p
  rcases List.mem_append.mp hn with hn | hn
  · exact h n hn p
  · rw [List.mem_singleton.mp hn]; rfl

theorem allOffered_mergedNotice {ev : Ev} (h : AllOffered ev) : AllOffered (ev.mergedNotice f c) := by
  unfold Ev.mergedNotice
  split
  · intro n hn p
    rcases mem_oneNotice hn with hn | hn
    · exact h n hn p
    · unfold Notice.offeredTo; rw [hn]; rfl
  · exact allOffered_feederNotice _ _ h

theorem tellsOf_feederNotice : TellsOf f (ev.feederNotice f c) := by
  simp [TellsOf, Ev.feederNotice, Ev.notify, isFeederState_notice]

theorem tellsOf_mergedNotice : TellsOf f (ev.mergedNotice f c) := by
  obtain ⟨n, hn, -⟩ := mergedNotice_single ev f c
  have hmem : n ∈ (ev.mergedNotice f c).notices.filter (·.isFeederState f) := by rw [hn]; exact List.mem_singleton.mpr rfl
  obtain ⟨hmem, hn⟩ := List.mem_filter.mp hmem
  exact List.any_eq_true.mpr ⟨n, hmem, hn⟩

/-- A change of an inhibit set tells of the feeder, and nothing more. -/
theorem inhibitNotice_told : others f (ev.inhibitNotice f c) = others f ev ∧ (AllOffered ev → AllOffered (ev.inhibitNotice f c))
    ∧ TellsOf f (ev.inhibitNotice f c) := by
  unfold Ev.inhibitNotice
  split
  · exact ⟨others_mergedNotice .., allOffered_mergedNotice _ _, tellsOf_mergedNotice ..⟩
  · exact ⟨others_feederNotice .., allOffered_feederNotice _ _, tellsOf_feederNotice ..⟩

end

/-! ### Steps that leave a reason of the inhibit sets (R108) -/

/-- No step from `ev` to `ev'` raises the reason `k` on a feeder, or lowers it. -/
def Leaves (k : Inhibit) (ev ev' : Ev) : Prop := ∀ j, (ev'.feeder j).inhibits.mem k = (ev.feeder j).inhibits.mem k

namespace Leaves

variable {k : Inhibit} {ev₀ ev ev' : Ev}

theorem refl (k : Inhibit) (ev : Ev) : Leaves k ev ev := fun _ => rfl

theorem trans (h : Leaves k ev₀ ev) (h' : Leaves k ev ev') : Leaves k ev₀ ev' := fun j => (h' j).trans (h j)

theorem of_same (h : SameInhibits ev ev') : Leaves k ev ev' := fun j => by rw [h.inhibits j]

theorem onLinked (h : Leaves k ev ev') {i : SlotId} (hcp : (ev'.slot i).cp = (ev.slot i).cp) {b : Bool}
    (ho : OnLinked ev.s i (fun f => f.inhibits.mem k = b)) : OnLinked ev'.s i (fun f => f.inhibits.mem k = b) := by
  intro f hf
  exact (h f).trans (ho f (by rw [← hf]; exact congrArg CrusherParams.linkedFeeder hcp.symm))

section
variable (h : Leaves k ev₀ ev)
include h

theorem modCrusher (i : SlotId) (f : Crusher → Crusher) : Leaves k ev₀ (ev.modCrusher i f) := h.trans (.of_same (.modCrusher ev i f))

theorem spared (hs : Spared ev ev') : Leaves k ev₀ ev' := h.trans (.of_same (.of_spared hs))

theorem setDrive (i : SlotId) (c : DriveCmd) : Leaves k ev₀ (ev.setDrive i c) := by
  refine h.trans (fun j => ?_)
  by_cases hj : j = i
  · subst hj; rw [Ev.feeder, Ev.setDrive, slot_modSlot]; rfl
  · rw [Ev.feeder, Ev.setDrive, slot_modSlot_ne _ _ hj]; rfl

theorem modFeeder (f : SlotId) (g : Feeder → Feeder) (hg : ∀ x, (g x).inhibits.mem k = x.inhibits.mem k) :
    Leaves k ev₀ (ev.modFeeder f g) := by
  refine h.trans (fun j => ?_)
  by_cases hj : j = f
  · subst hj; rw [Ev.feeder, Ev.modFeeder, slot_modSlot]; exact hg _
  · rw [Ev.feeder, Ev.modFeeder, slot_modSlot_ne _ _ hj]; rfl

theorem same (hs : ev'.s = ev.s) : Leaves k ev₀ ev' := h.trans (fun j => by rw [Ev.feeder, Ev.slot, hs]; rfl)

theorem lower (f : SlotId) {r : Inhibit} (hr : k ≠ r) : Leaves k ev₀ (ev.lower f r) := by
  unfold Ev.lower
  split
  · exact (h.modFeeder f _ (fun x => Inhibits.mem_put_ne _ _ hr)).same (Ev.inhibitNotice_s ..)
  · exact h

theorem raise (f : SlotId) {r : Inhibit} (hr : k ≠ r) : Leaves k ev₀ (ev.raise f r) := by
  unfold Ev.raise
  split
  · exact h
  · refine (h.modFeeder f _ (fun x => ?_)).same (Ev.inhibitNotice_s ..)
    unfold Feeder.raise
    split <;> exact Inhibits.mem_put_ne _ _ hr

theorem lowerLinked (i : SlotId) {r : Inhibit} (hr : k ≠ r) : Leaves k ev₀ (ev.lowerLinked i r) := by
  unfold Ev.lowerLinked
  split
  · exact h.lower _ hr
  · exact h

theorem raiseLinked (i : SlotId) {r : Inhibit} (hr : k ≠ r) : Leaves k ev₀ (ev.raiseLinked i r) := by
  unfold Ev.raiseLinked
  split
  · exact h.raise _ hr
  · exact h

end

end Leaves

/-! ### Steps that end work at a crusher -/

/-- What is left of a crusher whose work ends (R51, R54, R93). -/
structure SameRecords (c c' : Crusher) : Prop where
  tf : c'.tf = c.tf
  stack : c'.stack = c.stack
  w : c'.w = c.w
  history : c'.history = c.history
  wearBlock : c'.wearBlock = c.wearBlock

theorem SameRecords.refl (c : Crusher) : SameRecords c c := ⟨rfl, rfl, rfl, rfl, rfl⟩

/-- The drive of a slot stands at HOLD. -/
def Holding (x : Slot) : Prop := x.driver.cmd = .hold ∧ x.driver.out = none

/-- With no line change standing, the event raises at most `k` more notices that are no FEEDER_STATE of the linked feeder. -/
def Tells (i : SlotId) (k : Nat) (ev ev' : Ev) : Prop := ev.s.change = none → (AllOffered ev → AllOffered ev')
  ∧ ∀ f, (ev.slot i).cp.linkedFeeder = some f → (others f ev').length ≤ (others f ev).length + k ∧ (TellsOf f ev → TellsOf f ev')

/-- The steps from `ev` to `ev'` end work at crusher `i`: they leave its records and every feeder's LOCKOUT, a drive at HOLD stays there, and
they raise at most `k` notices beside those of the linked feeder. -/
structure WorkEnds (i : SlotId) (k : Nat) (ev ev' : Ev) : Prop where
  tended : Tended i ev ev'
  kept : SameRecords (ev.crusher i) (ev'.crusher i)
  holds : Holding (ev.slot i) → Holding (ev'.slot i)
  locked : Leaves .lockout ev ev'
  told : Tells i k ev ev'

namespace WorkEnds

variable {i : SlotId} {k l : Nat} {ev ev' ev'' : Ev}

theorem refl (i : SlotId) (ev : Ev) : WorkEnds i 0 ev ev :=
  ⟨.refl i ev, SameRecords.refl _, id, Leaves.refl _ _, fun _ => ⟨id, fun _ _ => ⟨Nat.le_refl _, id⟩⟩⟩

theorem trans (h : WorkEnds i k ev ev') (h' : WorkEnds i l ev' ev'') : WorkEnds i (k + l) ev ev'' where
  tended := h.tended.trans h'.tended
  kept := ⟨h'.kept.tf.trans h.kept.tf, h'.kept.stack.trans h.kept.stack, h'.kept.w.trans h.kept.w, h'.kept.history.trans h.kept.history,
    h'.kept.wearBlock.trans h.kept.wearBlock⟩
  holds hold := h'.holds (h.holds hold)
  locked := h.locked.trans h'.locked
  told hc := by
    obtain ⟨hoffer, hcount⟩ := h.told hc
    obtain ⟨hoffer', hcount'⟩ := h'.told (h.tended.change_none hc)
    refine ⟨fun ho => hoffer' (hoffer ho), fun f hf => ?_⟩
    obtain ⟨hlen, htells⟩ := hcount f hf
    obtain ⟨hlen', htells'⟩ := hcount' f (by rw [h.tended.cp i]; exact hf)
    exact ⟨by omega, fun ht => htells' (htells ht)⟩

theorem mono (h : WorkEnds i k ev ev') (hkl : k ≤ l) : WorkEnds i l ev ev' :=
  ⟨h.tended, h.kept, h.holds, h.locked, fun hc =>
    ⟨(h.told hc).1, fun f hf => ⟨((h.told hc).2 f hf).1.trans (Nat.add_le_add_left hkl _), ((h.told hc).2 f hf).2⟩⟩⟩

/-- Steps that raise no notice. -/
theorem tells_silent (h : ev'.notices = ev.notices) : Tells i 0 ev ev' := fun _ => by
  simp only [AllOffered, others, TellsOf, h]
  exact ⟨id, fun _ _ => ⟨Nat.le_refl _, id⟩⟩

/-- A change of the crusher's own record. -/
theorem modCrusher (f : Crusher → Crusher) (ht : Tended i ev (ev.modCrusher i f)) (hf : ∀ c, SameRecords c (f c)) :
    WorkEnds i 0 ev (ev.modCrusher i f) :=
  ⟨ht, by rw [crusher_modCrusher]; exact hf _, by rw [slot_modCrusher]; exact id, (Leaves.refl _ ev).modCrusher i f, tells_silent rfl⟩

theorem holdDrive (i : SlotId) (ev : Ev) : WorkEnds i 0 ev (ev.holdDrive i) :=
  ⟨(Tended.refl i ev).holdDrive, by rw [crusher_holdDrive]; exact .refl _, fun _ => by rw [slot_holdDrive]; exact Slot.command_hold ..,
    (Leaves.refl _ ev).setDrive i _, tells_silent rfl⟩

/-- Steps that only raise something. -/
theorem raises (ht : Tended i ev ev') (hs : ev'.s = ev.s) (htold : Tells i k ev ev') : WorkEnds i k ev ev' := by
  have hslot : ∀ j, ev'.slot j = ev.slot j := fun j => by simp only [Ev.slot, hs]
  have hcrusher : ev'.crusher i = ev.crusher i := congrArg Slot.crusher (hslot i)
  exact ⟨ht, by rw [hcrusher]; exact .refl _, by rw [hslot]; exact id, (Leaves.refl _ ev).same hs, htold⟩

/-- A notice that is no FEEDER_STATE. -/
theorem notify (i : SlotId) (ev : Ev) (j : Option SlotId) (b : NoticeBody) (hoffer : ∀ n : Notice, n.body = b → ∀ p, n.offeredTo p = true) :
    WorkEnds i 1 ev (ev.notify j b) := by
  refine raises ((Tended.refl i ev).notify j b) rfl (fun _ => ⟨fun ho n hn p => ?_, fun f _ => ⟨?_, fun ht => ?_⟩⟩)
  · rcases List.mem_append.mp hn with hn | hn
    · exact ho n hn p
    · exact hoffer n (by rw [List.mem_singleton.mp hn]) p
  · unfold others Ev.notify
    rw [List.filter_append, List.length_append]
    exact Nat.add_le_add_left (List.length_filter_le ..) _
  · rw [TellsOf, Ev.notify, List.any_append, ht]; rfl

theorem notifyEnd (i : SlotId) (ev : Ev) (j : Option SlotId) {b : NoticeBody} (hb : b.kind = .moveEnd) : WorkEnds i 1 ev (ev.notify j b) := by
  refine notify i ev j b (fun n hn p => ?_)
  unfold Notice.offeredTo
  rw [hn]
  cases b <;> cases hb
  rfl

theorem finalReply (i : SlotId) (ev : Ev) (p : Port) (a : Bool) (r : Reply) : WorkEnds i 0 ev (ev.finalReply p a r) :=
  raises ((Tended.refl i ev).finalReply ..) (Ev.finalReply_s ..) (tells_silent (Ev.finalReply_notices ..))

theorem entryFinal (i : SlotId) (ev : Ev) (e : Entry) (d : Disposition) (r : Reason) (b : ReplyBody) :
    WorkEnds i 0 ev (ev.entryFinal i e d r b) :=
  raises ((Tended.refl i ev).entryFinal ..) (by simp) (tells_silent (entryFinal_notices ..))

/-- What the line change unit makes of an end. -/
theorem changeItemEnd (i : SlotId) (ev : Ev) (id : Option Nat) (st : ItemState) (r : Reason) :
    WorkEnds i 0 ev (ev.changeItemEnd id i st r) := by
  have hspared := spared_changeItemEnd ev id i st r
  refine ⟨(Tended.refl i ev).changeItemEnd .., by rw [hspared.crusher i]; exact .refl _, ?_, (Leaves.refl _ ev).spared hspared,
    fun hc => by rw [changeItemEnd_none hc]; exact (refl i ev).told hc⟩
  rw [Holding, Holding, hspared.driver i]
  exact fun h => h

/-- A change of the linked feeder's inhibit set, but for LOCKOUT. -/
theorem linked {f : SlotId} (hf : (ev.slot i).cp.linkedFeeder = some f) (g : Feeder → Feeder) (c : FeederCause)
    (ht : Tended i ev ((ev.modFeeder f g).inhibitNotice f c)) (hlocked : Leaves .lockout ev ((ev.modFeeder f g).inhibitNotice f c)) :
    WorkEnds i 0 ev ((ev.modFeeder f g).inhibitNotice f c) := by
  have hslot : ∃ y, ((ev.modFeeder f g).inhibitNotice f c).slot i = { ev.slot i with feeder := y } := by
    rw [Ev.slot, Ev.inhibitNotice_s]
    by_cases hi : i = f
    · subst hi; exact ⟨_, slot_modSlot ..⟩
    · exact ⟨_, slot_modSlot_ne _ _ hi⟩
  obtain ⟨y, hy⟩ := hslot
  have hcrusher : ((ev.modFeeder f g).inhibitNotice f c).crusher i = ev.crusher i := by
    have h := congrArg Slot.crusher hy
    exact h
  obtain ⟨hothers, hoffer, htells⟩ := inhibitNotice_told (ev.modFeeder f g) f c
  refine ⟨ht, by rw [hcrusher]; exact .refl _, by rw [hy]; exact id, hlocked, fun _ => ⟨hoffer, fun f' hf' => ?_⟩⟩
  obtain rfl : f = f' := Option.some.inj (hf.symm.trans hf')
  exact ⟨Nat.le_of_eq (congrArg List.length hothers), fun _ => htells⟩

theorem lowerLinked (i : SlotId) (ev : Ev) (r : Inhibit) (hr : Inhibit.lockout ≠ r) : WorkEnds i 0 ev (ev.lowerLinked i r) := by
  unfold Ev.lowerLinked
  split
  · next f hf =>
    have ht := (Tended.refl i ev).lower hf r
    have hlocked := (Leaves.refl _ ev).lower f hr
    unfold Ev.lower at ht hlocked ⊢
    split at ht
    · next hmem => rw [if_pos hmem] at hlocked ⊢; exact linked hf _ _ ht hlocked
    · next hmem => rw [if_neg hmem]; exact refl i ev
  · exact refl i ev

theorem raiseLinked (i : SlotId) (ev : Ev) (r : Inhibit) (hr : Inhibit.lockout ≠ r) : WorkEnds i 0 ev (ev.raiseLinked i r) := by
  unfold Ev.raiseLinked
  split
  · next f hf =>
    have ht := (Tended.refl i ev).raise hf r
    have hlocked := (Leaves.refl _ ev).raise f hr
    unfold Ev.raise at ht hlocked ⊢
    split at ht
    · next hmem => rw [if_pos hmem]; exact refl i ev
    · next hmem => rw [if_neg hmem] at hlocked ⊢; exact linked hf _ _ ht hlocked
  · exact refl i ev

end WorkEnds

/-! The same, behind steps that end work already -/

namespace WorkEnds

variable {i : SlotId} {k : Nat} {ev₀ ev : Ev} (h : WorkEnds i k ev₀ ev)
include h

theorem thenCrusher (f : Crusher → Crusher) (hf : ∀ c, SameRecords c (f c) := by exact fun _ => ⟨rfl, rfl, rfl, rfl, rfl⟩)
    (ht : Tended i ev (ev.modCrusher i f) := by exact (Tended.refl _ _).modCrusher _) : WorkEnds i k ev₀ (ev.modCrusher i f) :=
  h.trans (modCrusher f ht hf)

theorem thenMotion (m : Motion) : WorkEnds i k ev₀ (ev.setMotion i m) := h.thenCrusher _

theorem thenEpisode (f : Episode → Episode) : WorkEnds i k ev₀ (ev.onEpisode i f) := h.thenCrusher _

theorem thenStop : WorkEnds i k ev₀ (ev.stopMotion i) := (h.trans (holdDrive i ev)).thenCrusher _

theorem thenLower (r : Inhibit) (hr : Inhibit.lockout ≠ r) : WorkEnds i k ev₀ (ev.lowerLinked i r) := h.trans (lowerLinked i ev r hr)

theorem thenEnd (e : Entry) (d : Disposition) (r : Reason) : WorkEnds i (k + 1) ev₀ (ev.moveEndNotice i e d r) :=
  h.trans (notifyEnd i ev _ rfl)

/-- The record of a move goes, and its MOVE_END notice is raised (R51). -/
theorem thenClose (m : MoveRec) (d : Disposition) (r : Reason) : WorkEnds i (k + 1) ev₀ (ev.closeMove i m d r) :=
  (((h.thenCrusher _).trans (entryFinal i _ m.entry d r _)).thenEnd m.entry d r).trans (changeItemEnd i _ _ _ r)

/-- A move that fails. -/
theorem thenFail (r : Reason) : WorkEnds i (k + 1) ev₀ (ev.finishMove i .failed r).1 := by
  have hbad : ¬ ((Disposition.failed = .done) ∨ (Disposition.failed = .doneAdjusted)) := by decide
  cases hm : (ev.crusher i).move with
  | none => rw [finishMove_none hm]; exact h.mono (Nat.le_succ k)
  | some m =>
    cases hin : (ev.crusher i).motion.inEpisode with
    | true =>
      simp only [Ev.finishMove, hm, hin, hbad, if_true, if_false]
      exact (h.thenEpisode _).thenClose ..
    | false =>
      simp only [Ev.finishMove, hm, hin, hbad, if_false, Bool.false_eq_true]
      refine thenMotion (thenClose ?_ ..) _
      split
      · exact h.thenStop.thenLower .drain (by decide)
      · exact h.thenStop

theorem thenEntryEnd (r : Reason) (e : Entry) : WorkEnds i (k + 1) ev₀ (ev.endEntry i r e) :=
  ((h.trans (entryFinal i ev e .discarded r .empty)).thenEnd e .discarded r).trans (changeItemEnd i _ _ _ r)

/-- Each entry discarded raises its MOVE_END notice. -/
theorem thenDiscard (r : Reason) : WorkEnds i (k + (ev.crusher i).queue.length) ev₀ (ev.discardAll i r) := by
  have hall : ∀ (es : List Entry) (k : Nat) (ev : Ev), WorkEnds i k ev₀ ev →
      WorkEnds i (k + es.length) ev₀ (es.foldl (fun ev e => ev.endEntry i r e) ev) := by
    intro es
    induction es with
    | nil => exact fun _ _ h => h
    | cons e es ih =>
      intro k ev h
      rw [List.length_cons, Nat.add_comm es.length, ← Nat.add_assoc]
      exact ih _ _ (h.thenEntryEnd r e)
  have hdrop : WorkEnds i k ev₀ (ev.dropEntries i (fun _ => true)) := h.thenCrusher _ (ht := (Tended.refl i ev).dropEntries _)
  have hends := hall ((ev.crusher i).queue.filter (fun _ => true)) _ _ hdrop
  rw [List.filter_true] at hends
  unfold Ev.discardAll Ev.discardWhere
  rw [List.filter_true]
  exact hends

/-- Entry to BLOCKED discards the queue (R52). -/
theorem thenBlocked (b : BlockCause) : WorkEnds i (k + (ev.crusher i).queue.length) ev₀ (ev.enterBlocked i b) := by
  have hqueue : (((ev.stopMotion i).setMotion i (.blocked b)).crusher i).queue = (ev.crusher i).queue := by
    rw [crusher_setMotion, crusher_stopMotion]; rfl
  have hends := (h.thenStop.thenMotion (.blocked b)).thenDiscard (if b = .trampRepeat then .trampRepeat else .blocked)
  rw [hqueue] at hends
  unfold Ev.enterBlocked
  dsimp only
  split
  · exact hends.trans (raiseLinked i _ .calibrate (by decide))
  · exact hends

/-- The end of a calibration raises its MOVE_END notice (R93). -/
theorem thenEndCal (d : Disposition) (r : Reason) : WorkEnds i (k + 1) ev₀ (ev.endCal i d r) := by
  unfold Ev.endCal
  split
  · exact h.mono (Nat.le_succ k)
  · exact ((((h.thenStop.thenLower .calibrate (by decide)).thenCrusher _).trans (finalReply ..)).trans (notifyEnd i _ _ rfl)).thenMotion _

/-- What a lockout ends raises one MOVE_END notice for the move or the calibration, and one for each entry (R54). -/
theorem thenLockout : WorkEnds i (k + 1 + (ev.crusher i).queue.length) ev₀ (ev.lockoutWork i) := by
  have hqueue : (((ev.finishMove i .failed .lockout).1).crusher i).queue = (ev.crusher i).queue := (settings_finishMove_failed ..).queue
  have hends := (h.thenFail .lockout).thenDiscard .lockout
  rw [hqueue] at hends
  unfold Ev.lockoutWork
  split
  · exact h.mono (by omega)
  · exact (hends.thenEpisode _).thenLower .relief (by decide)
  · exact ((hends.thenStop.thenCrusher _).thenMotion _).thenLower .relief (by decide)
  · rw [Nat.add_right_comm]; exact (h.thenDiscard .lockout).thenEndCal ..
  · exact hends

theorem thenStopRestart : WorkEnds i k ev₀ (ev.stopRestart i) := by
  unfold Ev.stopRestart
  split
  · exact (h.thenCrusher _).thenLower .recoveryDelay (by decide)
  · exact h

end WorkEnds

end Sys2Proof.Proofs
end


section
/-! PROOF. A start check raises DRAIN and CALIBRATE alone, and no other reason leaves a set (R41, R43, R82, R108). -/

namespace Sys2Proof.Proofs.Leaves

open Sys2Proof Sys2Proof.Machine

set_option Elab.async false

section
variable {k : Inhibit} {ev₀ ev : Ev} {i : SlotId} (h : Leaves k ev₀ ev)
include h

theorem record (j : SlotId) (c : Cond) : Leaves k ev₀ (ev.record j c) := h.spared (spared_record ..)

theorem stopMotion (j : SlotId) : Leaves k ev₀ (ev.stopMotion j) := (h.setDrive j _).modCrusher j _

theorem setMotion (j : SlotId) (m : Motion) : Leaves k ev₀ (ev.setMotion j m) := h.modCrusher j _

theorem discardAll (j : SlotId) (r : Reason) : Leaves k ev₀ (ev.discardAll j r) := by
  have hall : ∀ (es : List Entry) (ev : Ev), Leaves k ev₀ ev → Leaves k ev₀ (es.foldl (fun ev e => ev.endEntry j r e) ev) := by
    intro es
    induction es with
    | nil => exact fun _ h => h
    | cons e es ih => exact fun ev h => ih _ (h.spared (spared_endEntry ..))
  exact hall _ _ (h.modCrusher j _)

/-- A step for one case or another. -/
theorem ite {p : Prop} [Decidable p] {ev' : Ev} (h' : Leaves k ev₀ ev') : Leaves k ev₀ (if p then ev else ev') := by
  split
  · exact h
  · exact h'

theorem closeMove (j : SlotId) (m : MoveRec) (d : Disposition) (r : Reason) : Leaves k ev₀ (ev.closeMove j m d r) :=
  (((h.modCrusher j _).spared (spared_entryFinal ..)).spared (spared_notify ..)).spared (spared_changeItemEnd ..)

theorem settleTarget (j : SlotId) (m : MoveRec) : Leaves k ev₀ (ev.settleTarget j m) := h.trans (.of_same (sameInhibits_settleTarget ..))

theorem addCause (j : SlotId) (c : Cause) : Leaves k ev₀ (ev.addCause j c) := by
  unfold Ev.addCause
  dsimp only
  split
  case h_7 => exact h
  case h_4 | h_5 | h_6 => exact h.modCrusher j _
  all_goals exact (((h.stopMotion j).setMotion j _).modCrusher j _).modCrusher j _

theorem moveStep (j : SlotId) (p : Nat) : Leaves k ev₀ (ev.moveStep j p) := by
  unfold Ev.moveStep
  dsimp only
  split
  · exact h
  · split
    · exact h.setDrive j _
    · exact ((h.setDrive j _).setMotion j _).modCrusher j _

/-- Entry to BLOCKED raises CALIBRATE (R52). -/
theorem enterBlocked (hcalibrate : k ≠ .calibrate) (j : SlotId) (b : BlockCause) : Leaves k ev₀ (ev.enterBlocked j b) :=
  ite ((((h.stopMotion j).setMotion j _).discardAll j _).raiseLinked j hcalibrate) (((h.stopMotion j).setMotion j _).discardAll j _)

variable (hdrain : k ≠ .drain)
include hdrain

/-- The end of a move lowers DRAIN (R51). -/
theorem finishMove (j : SlotId) (d : Disposition) (r : Reason) : Leaves k ev₀ (ev.finishMove j d r).1 := by
  unfold Ev.finishMove
  split
  · exact h
  · next m _ =>
    dsimp only
    split
    · exact (ite ((h.modCrusher j _).settleTarget j m) (h.modCrusher j _)).closeMove j m d r
    · have hstopped := ite ((h.stopMotion j).lowerLinked j hdrain) (h.stopMotion j) (p := ((ev.stopMotion j).slot j).kind = .jaw)
      exact ((ite (hstopped.settleTarget j m) hstopped).closeMove j m d r).setMotion j _

theorem enterMoving (j : SlotId) : Leaves k ev₀ (ev.enterMoving j).1 := by
  have hlost := (((h.setMotion j .moving).record j .positionInvalid).setDrive j .hold).modCrusher j (fun c => { c with settle := none })
  unfold Ev.enterMoving
  dsimp only
  split
  · exact (h.setMotion j _).moveStep j _
  · unfold Ev.positionLost
    dsimp only
    split
    · exact hlost.addCause j _
    · exact hlost.finishMove hdrain j _ _

theorem enterDraining (j : SlotId) : Leaves k ev₀ (ev.enterDraining j).1 := by
  have hdrains := ((h.setMotion j .draining).raiseLinked j hdrain).modCrusher j
  unfold Ev.enterDraining
  dsimp only
  split
  · exact ((hdrains _).modCrusher j _).enterMoving hdrain j
  · exact hdrains _

theorem launch (j : SlotId) : Leaves k ev₀ (ev.launch j).1 := by
  unfold Ev.launch
  dsimp only
  split
  · exact (h.modCrusher j _).enterDraining hdrain j
  · exact (h.modCrusher j _).enterMoving hdrain j

theorem aim (j : SlotId) (gap : Nat) : Leaves k ev₀ (ev.aim j gap).1 := by
  have htold := (h.record j .reach).ite (p := (targetFor (ev.slot j).cp (ev.slot j).crusher.z (ev.slot j).crusher.w (ev.masked j .reach) gap).reach) h
  unfold Ev.aim
  dsimp only
  split
  · exact htold.finishMove hdrain j _ _
  · exact (htold.modCrusher j _).launch hdrain j

theorem startHead (j : SlotId) : Leaves k ev₀ (ev.startHead j).1 := by
  unfold Ev.startHead
  dsimp only
  split
  · exact h
  · next e rest _ =>
    have hhead := fun c => (ite ((h.modCrusher j c).record j .envelope) (h.modCrusher j c)
      (p := (resolveEntry (ev.slot j).cp (ev.slot j).crusher.tf (ev.masked j .envelope) e).raised = true))
    split
    · exact (hhead _).finishMove hdrain j _ _
    · exact (hhead _).aim hdrain j _

theorem check (hcalibrate : k ≠ .calibrate) (j : SlotId) (trim : Bool) : Leaves k ev₀ (ev.check j trim) := by
  have hall : ∀ (fuel : Nat) (ev : Ev) (trim : Bool), Leaves k ev₀ ev → Leaves k ev₀ (Ev.startCheck fuel ev j trim) := by
    intro fuel
    induction fuel with
    | zero => exact fun _ _ h => h
    | succ n ih =>
      intro ev trim h
      unfold Ev.startCheck
      dsimp only
      split
      · exact (h.modCrusher j _).enterBlocked hcalibrate j _
      · split
        · split
          · exact h.startHead hdrain j
          · exact ih _ _ (h.startHead hdrain j)
        · split
          · exact ih _ _ (h.modCrusher j _)
          · exact h
  exact hall _ _ _ h

end

end Sys2Proof.Proofs.Leaves
end


section
/-! PROOF. The lockout inputs (R52, R54, R72, R74, R94, R106, R117). -/

namespace Sys2Proof.Proofs

open Sys2Proof Sys2Proof.Machine

set_option Elab.async false

/-! ### What a crusher's lockout leaves of its work (R54) -/

/-- The motion state in which the end of its work leaves a crusher. -/
def endedMotion : Motion → Motion
  | .blocked b => .blocked b
  | .relief => .relief
  | _ => .idle

section
variable {ev : Ev} {i : SlotId}

theorem lockoutWork_ends {x : Slot} (h : Fits x (ev.crusher i)) :
    ((ev.lockoutWork i).crusher i).queue = [] ∧ ((ev.lockoutWork i).crusher i).motion = endedMotion (ev.crusher i).motion := by
  have hcoherent := h.coherent
  unfold MotionCoherent at hcoherent
  unfold Ev.lockoutWork
  split
  · next b hm =>
    rw [hm] at hcoherent ⊢
    exact ⟨hcoherent.2.2.2, rfl⟩
  · next hm =>
    obtain ⟨-, -, hmotion, -⟩ := h.ends (by rw [hm]; rfl) .failed .lockout
    rw [crusher_lowerLinked, crusher_onEpisode, crusher_discardAll, hm]
    exact ⟨rfl, hmotion.trans hm⟩
  · next hm =>
    rw [hm, crusher_lowerLinked, crusher_setMotion, crusher_modCrusher, crusher_stopMotion, crusher_discardAll]
    exact ⟨rfl, rfl⟩
  · next hm =>
    rw [hm] at hcoherent
    obtain ⟨-, hcal, -⟩ := hcoherent
    obtain ⟨run, hrun⟩ := Option.isSome_iff_exists.mp hcal
    rw [hm, crusher_endCal (run := run) (by rw [crusher_discardAll]; exact hrun), crusher_discardAll]
    exact ⟨rfl, rfl⟩
  · next hblocked hrelief hrecovering hcalibrating =>
    have hm : (ev.crusher i).motion = .idle ∨ InFlight (ev.crusher i).motion ∨ (ev.crusher i).motion = .suspended := by
      cases hmotion : (ev.crusher i).motion <;> simp_all [InFlight]
    obtain ⟨hmotion, -⟩ := h.idles hm .failed .lockout
    have hidle : endedMotion (ev.crusher i).motion = .idle := by
      rcases hm with h | (h | h | h) | h <;> rw [h] <;> rfl
    rw [crusher_discardAll, hidle]
    exact ⟨rfl, hmotion⟩

theorem crusher_stopRestart (ev : Ev) (i : SlotId) : (ev.stopRestart i).crusher i = { ev.crusher i with restart := none } := by
  unfold Ev.stopRestart
  split
  · rw [crusher_lowerLinked, crusher_modCrusher]
  · next h =>
    have hnone : (ev.crusher i).restart = none := by simpa using h
    rw [← hnone]

/-- The work of the slot has ended, the restart delay stopped. -/
def workEnded (ev : Ev) (i : SlotId) : Ev := ((ev.holdDrive i).lockoutWork i).stopRestart i

/-- And LOCKOUT stands on the linked feeder. -/
def lockedDown (ev : Ev) (i : SlotId) : Ev := (workEnded ev i).lockLinked i

theorem crusherLockout_eq (ev : Ev) (i : SlotId) : ev.crusherLockout i =
    if (ev.crusher i).motion = .recovering then ((lockedDown ev i).check i).mergeLinked i else lockedDown ev i := rfl

theorem workEnded_ends (ev : Ev) (i : SlotId) : WorkEnds i (1 + (ev.crusher i).queue.length) ev (workEnded ev i) := by
  have hends := (WorkEnds.holdDrive i ev).thenLockout.thenStopRestart
  rw [crusher_holdDrive, Nat.zero_add] at hends
  exact hends

theorem crusher_workEnded {x : Slot} (h : Fits x (ev.crusher i)) : ((workEnded ev i).crusher i).queue = []
    ∧ ((workEnded ev i).crusher i).motion = endedMotion (ev.crusher i).motion ∧ ((workEnded ev i).crusher i).restart = none := by
  obtain ⟨hqueue, hmotion⟩ := lockoutWork_ends (ev := ev.holdDrive i) (by rw [crusher_holdDrive]; exact h)
  rw [crusher_holdDrive] at hmotion
  rw [workEnded, crusher_stopRestart]
  exact ⟨hqueue, hmotion, rfl⟩

theorem holding_workEnded (ev : Ev) (i : SlotId) : Holding ((workEnded ev i).slot i) := by
  have hends := (WorkEnds.refl i (ev.holdDrive i)).thenLockout.thenStopRestart
  refine hends.holds ?_
  rw [slot_holdDrive]
  exact Slot.command_hold ..

theorem slot_lockLinked (ev : Ev) (i : SlotId) : ∃ f, (ev.lockLinked i).slot i = { ev.slot i with feeder := f } := by
  rw [Ev.slot, Ev.lockLinked_s]
  exact raiseLinked_slot .lockout i

theorem slot_lockedDown (ev : Ev) (i : SlotId) : ∃ f, (lockedDown ev i).slot i = { (workEnded ev i).slot i with feeder := f } := slot_lockLinked ..

theorem tended_lockedDown (ev : Ev) (i : SlotId) : Tended i ev (lockedDown ev i) := (workEnded_ends ev i).tended.lockLinked

/-- The crusher once its lockout has been acted on: the close of an episode in RECOVERING may block a worn slot (R74, R82). -/
theorem slot_crusherLockout {x : Slot} (h : Fits x (ev.crusher i)) (hlock : (ev.slot i).lockout.state = true) :
    let c := ev.crusher i
    let y := (ev.crusherLockout i).slot i
    Holding y ∧ y.crusher.queue = [] ∧ y.crusher.restart = none
      ∧ y.crusher.tf = c.tf ∧ y.crusher.stack = c.stack ∧ y.crusher.w = c.w ∧ y.crusher.history = c.history
      ∧ y.crusher.motion = if c.motion = .recovering ∧ c.wearBlock = true then .blocked .wearLimit else endedMotion c.motion := by
  intro c y
  obtain ⟨f, hf⟩ := slot_lockedDown ev i
  obtain ⟨hqueue, hmotion, hrestart⟩ := crusher_workEnded h
  obtain ⟨htf, hstack, hw, hhistory, hworn⟩ := (workEnded_ends ev i).kept
  have hholds := holding_workEnded ev i
  have hsame : ((lockedDown ev i).slot i).crusher = (workEnded ev i).crusher i := by rw [hf]; rfl
  by_cases hm : c.motion = .recovering
  case neg =>
    have hy : y = { (workEnded ev i).slot i with feeder := f } := by
      show (ev.crusherLockout i).slot i = _
      rw [crusherLockout_eq, if_neg hm, hf]
    rw [hy, if_neg (fun h => hm h.1)]
    exact ⟨hholds, hqueue, hrestart, htf, hstack, hw, hhistory, hmotion⟩
  case pos =>
    have hidle : ((lockedDown ev i).slot i).crusher.motion = .idle := by
      rw [hsame, hmotion, show (ev.crusher i).motion = .recovering from hm]; rfl
    have hblock : ((lockedDown ev i).slot i).crusher.wearBlock = c.wearBlock := by rw [hsame]; exact hworn
    have hbarred : ((lockedDown ev i).slot i).lockout.state = true ∨ (lockedDown ev i).s.lineStop.state = true :=
      .inl (by rw [(tended_lockedDown ev i).lockout]; exact hlock)
    have hy : y = ((lockedDown ev i).check i).slot i := by
      show (ev.crusherLockout i).slot i = _
      rw [crusherLockout_eq, if_pos hm, Ev.slot, Ev.mergeLinked_s]
      rfl
    cases hc : c.wearBlock with
    | false =>
      rw [hy, check_barred_sound hbarred (hblock.trans hc), hf, if_neg (fun h => Bool.false_ne_true h.2)]
      exact ⟨hholds, hqueue, hrestart, htf, hstack, hw, hhistory, hmotion⟩
    | true =>
      obtain ⟨g, hg⟩ := slot_check_worn hbarred hidle (hblock.trans hc)
      rw [hy, hg, if_pos ⟨hm, rfl⟩, hf]
      exact ⟨Slot.command_hold .., rfl, hrestart, htf, hstack, hw, hhistory, rfl⟩

/-- LOCKOUT stands on the linked feeder from then on. -/
theorem onLinked_crusherLockout (ev : Ev) (i : SlotId) : OnLinked (ev.crusherLockout i).s i (fun f => f.inhibits.mem .lockout = true) := by
  have hlocked : OnLinked (lockedDown ev i).s i (fun f => f.inhibits.mem .lockout = true) := by
    rw [lockedDown, Ev.lockLinked_s]
    exact onLinked_raiseLinked _ i _
  rw [crusherLockout_eq]
  split
  · rw [Ev.mergeLinked_s]
    exact ((Leaves.refl _ _).check (by decide) (by decide) i true).onLinked (((Tended.refl i _).check true).cp i) hlocked
  · exact hlocked

/-! ### The one FEEDER_STATE notice of a lockout (R117) -/

/-- A start check at a slot locked out, with nothing queued, tells of nothing but the linked feeder. -/
theorem tells_check {ev : Ev} (hlock : (ev.slot i).lockout.state = true) (hqueue : (ev.crusher i).queue = []) : Tells i 0 ev (ev.check i) := by
  rw [check_barred (.inl hlock)]
  split
  · have hqueue' : ((ev.modCrusher i (fun c => { c with wearBlock := false })).crusher i).queue = [] := by
      rw [crusher_modCrusher]; exact hqueue
    have hblocked := ((WorkEnds.refl i (ev.modCrusher i (fun c => { c with wearBlock := false }))).thenBlocked .wearLimit).told
    rw [hqueue'] at hblocked
    intro hc
    obtain ⟨hoffer, hcount⟩ := hblocked hc
    exact ⟨hoffer, fun f hf => hcount f (by rw [slot_modCrusher]; exact hf)⟩
  · exact (WorkEnds.refl i ev).told

theorem crusherLockout_tells {x : Slot} (h : Fits x (ev.crusher i)) (hlock : (ev.slot i).lockout.state = true) (hc : ev.s.change = none)
    {f : SlotId} (hf : (ev.slot i).cp.linkedFeeder = some f) (hfree : (ev.feeder f).inhibits.mem .lockout = false) (hoffered : AllOffered ev) :
    AllOffered (ev.crusherLockout i) ∧ (others f (ev.crusherLockout i)).length ≤ (others f ev).length + (1 + (ev.crusher i).queue.length)
      ∧ ∃ n, (ev.crusherLockout i).notices.filter (·.isFeederState f) = [n]
        ∧ n.body = ((ev.crusherLockout i).feeder f).noticeBody (.raised .lockout) := by
  have hends := workEnded_ends ev i
  obtain ⟨hoffer, hcount⟩ := hends.told hc
  obtain ⟨hlen, -⟩ := hcount f hf
  have hlinked : ((workEnded ev i).slot i).cp.linkedFeeder = some f := by rw [hends.tended.cp]; exact hf
  have hlocked : lockedDown ev i = ((workEnded ev i).modFeeder f (·.raise .lockout)).mergedNotice f (.raised .lockout) := by
    unfold lockedDown Ev.lockLinked
    rw [hlinked]
    exact if_neg (by rw [hends.locked f, hfree]; exact Bool.false_ne_true)
  have hothers : others f (lockedDown ev i) = others f (workEnded ev i) := by rw [hlocked, others_mergedNotice]; rfl
  have hall : AllOffered (lockedDown ev i) := by rw [hlocked]; exact allOffered_mergedNotice _ _ (hoffer hoffered)
  rw [crusherLockout_eq]
  by_cases hm : (ev.crusher i).motion = .recovering
  case neg =>
    rw [if_neg hm]
    refine ⟨hall, by rw [hothers]; exact hlen, ?_⟩
    rw [hlocked, Ev.feeder, Ev.slot, Ev.mergedNotice_s]
    exact mergedNotice_single ..
  case pos =>
    have ht := tended_lockedDown ev i
    obtain ⟨g, hg⟩ := slot_lockedDown ev i
    have hqueue : ((lockedDown ev i).crusher i).queue = [] := by rw [Ev.crusher, hg]; exact (crusher_workEnded h).1
    have htold := tells_check (i := i) (by rw [ht.lockout]; exact hlock) hqueue
    obtain ⟨hoffer', hcount'⟩ := htold (ht.change_none hc)
    obtain ⟨hlen', htells⟩ := hcount' f (by rw [ht.cp]; exact hf)
    have hmerged : ((lockedDown ev i).check i).mergeLinked i = ((lockedDown ev i).check i).mergedNotice f (.raised .lockout) := by
      unfold Ev.mergeLinked
      rw [show (((lockedDown ev i).check i).slot i).cp.linkedFeeder = some f by rw [(ht.check true).cp]; exact hf]
      exact if_pos (htells (by rw [hlocked]; exact tellsOf_mergedNotice ..))
    rw [if_pos hm, hmerged]
    refine ⟨allOffered_mergedNotice _ _ (hoffer' hall), ?_, ?_⟩
    · rw [others_mergedNotice]
      rw [hothers] at hlen'
      omega
    · rw [Ev.feeder, Ev.slot, Ev.mergedNotice_s]
      exact mergedNotice_single ..

end

end Sys2Proof.Proofs
end


section
/-! PROOF. The obligation on the lockout inputs (R52, R54, R72, R74, R94, R106, R117). -/

namespace Sys2Proof.Proofs

open Sys2Proof Sys2Proof.Machine

set_option Elab.async false

/-! ### The debounce expiry of a lockout input (R126, R165) -/

/-- The part once the lockout input of a slot has taken its level. -/
def inputTaken (s : State) (i : SlotId) (b : Bool) : State := s.setDiscrete (.lockout i) ⟨b, b, none⟩

section
variable {s : State} {i : SlotId} {d : Nat} {b : Bool}

theorem exec_lockout (hrun : s.phase = .running) (hin : (s.slots.get i).lockout = ⟨b, !b, some d⟩) :
    exec (.debounceExpiry (.lockout i)) s = .next ((Ev.of (inputTaken (s.reach d) i b)).discreteEvent (.lockout i) b).commit := by
  have hne : (b = !b) = False := by cases b <;> simp
  show execDebounceExpiry (.lockout i) s = _
  simp only [execDebounceExpiry, State.discrete, hin, hrun]
  simp [hne, inputTaken]

theorem slot_inputTaken : (Ev.of (inputTaken (s.reach d) i b)).slot i = { s.slots.get i with lockout := ⟨b, b, none⟩ } := by
  simp [inputTaken, State.setDiscrete]

theorem slot_inputTaken_other {j : SlotId} (hj : j ≠ i) : (Ev.of (inputTaken (s.reach d) i b)).slot j = s.slots.get j :=
  State.modSlot_slot_ne _ _ hj

theorem feeder_inputTaken (j : SlotId) : (Ev.of (inputTaken (s.reach d) i b)).feeder j = (s.slots.get j).feeder := by
  by_cases hj : j = i
  · subst hj; rw [Ev.feeder, slot_inputTaken]
  · rw [Ev.feeder, slot_inputTaken_other hj]

theorem crusher_inputTaken : (Ev.of (inputTaken (s.reach d) i b)).crusher i = (s.slots.get i).crusher := by
  rw [Ev.crusher, slot_inputTaken]

/-- What the event makes of the crusher is work at it alone, where no line change stands. -/
theorem onlyCrusher_inputTaken {ev : Ev} (ht : Tended i (Ev.of (inputTaken (s.reach d) i b)) ev) (hc : s.change = none) :
    OnlyCrusher (inputTaken s i b) ev.commit i := by
  have hclock : Worked i ((inputTaken s i b).slots.get i).cp.linkedFeeder (inputTaken s i b) (inputTaken (s.reach d) i b) :=
    ⟨rfl, fun _ h => h, fun _ => .refl ..⟩
  exact onlyCrusher_tended hclock ht hc

end

/-! ### A crusher's lockout (R54) -/

section
variable {s : State} {i : SlotId} {d : Nat}

theorem lockoutAsserted_crusher {ev : Ev} (h : (ev.slot i).kind.isCrusher = true) : ev.lockoutAsserted i = ev.crusherLockout i := by
  unfold Ev.lockoutAsserted
  split
  · rfl
  · rfl
  · next hk => rw [hk] at h; cases h
  · next hk => rw [hk] at h; cases h

/-- The event of a lockout that asserts at a crusher. -/
def assertedAt (s : State) (i : SlotId) (d : Nat) : Ev := (Ev.of (inputTaken (s.reach d) i true)).crusherLockout i

theorem exec_asserted (hrun : s.phase = .running) (hk : (s.slots.get i).kind.isCrusher = true)
    (hin : (s.slots.get i).lockout = ⟨true, false, some d⟩) : exec (.debounceExpiry (.lockout i)) s = .next (assertedAt s i d).commit := by
  rw [exec_lockout (b := true) hrun hin]
  exact congrArg (fun ev : Ev => Host.Outcome.next ev.commit) (lockoutAsserted_crusher (by rw [slot_inputTaken]; exact hk))

theorem tended_asserted : Tended i (Ev.of (inputTaken (s.reach d) i true)) (assertedAt s i d) := (Tended.refl ..).crusherLockout

theorem lockout_asserted : ((assertedAt s i d).slot i).lockout = ⟨true, true, none⟩ := by
  rw [tended_asserted.lockout, slot_inputTaken]

theorem fedOk_asserted (hfeed : FeedLaw s) (f : SlotId) : FedOk ((assertedAt s i d).feeder f) :=
  tended_asserted.fed f (by rw [feeder_inputTaken]; exact fedOk_of_feedLaw hfeed f)

/-- LOCKOUT stands on the linked feeder, which holds it at 0 (R108). -/
theorem onLinked_asserted (hfeed : FeedLaw s) : OnLinked (assertedAt s i d).s i (fun f => f.inhibits.lockout = true ∧ f.r = 0) := by
  intro f hf
  have hlocked := onLinked_crusherLockout (Ev.of (inputTaken (s.reach d) i true)) i f hf
  exact ⟨hlocked, (fedOk_asserted hfeed f).off hlocked⟩

/-- The law leaves no move, no calibration and only an abandoned episode. -/
theorem fits_asserted (hlaw : MotionLaw s) (hrun : s.phase = .running) (hk : (s.slots.get i).kind.isCrusher = true) :
    Fits ((assertedAt s i d).slot i) ((assertedAt s i d).crusher i) := by
  have hfits := (motionLaw_iff hrun).mp hlaw i hk
  exact lawful_crusherLockout (x := s.slots.get i) (by rw [crusher_inputTaken]; exact hfits) (by rw [slot_inputTaken]) (by rw [slot_inputTaken])

/-- The FEEDER_STATE notices of the event at a port are one, with the state after the event (R117). -/
theorem notice_asserted (hlaw : MotionLaw s) (hfeed : FeedLaw s) (hrun : s.phase = .running) (hk : (s.slots.get i).kind.isCrusher = true)
    {f : SlotId} {q : Port} (hf : (s.slots.get i).cp.linkedFeeder = some f) (hfree : (s.slots.get f).feeder.inhibits.lockout = false)
    (hnone : s.change = none) (hqueue : (s.slots.get i).crusher.queue.length ≤ 4) (hon : s.enabled q = true)
    (hsubs : (s.ports.get q).subs = NoticeSet.every) (hroom : (s.ports.get q).notices.length ≤ 8) :
    ∃ n, ((assertedAt s i d).commit.ports.get q).notices.filter (·.isFeederState f)
        = (s.ports.get q).notices.filter (·.isFeederState f) ++ [n]
      ∧ ∃ cause, n.body = .feederState ((assertedAt s i d).commit.slots.get f).feeder.run
          ((assertedAt s i d).commit.slots.get f).feeder.inhibits 0 cause := by
  have ht := tended_asserted (s := s) (i := i) (d := d)
  have hfits := (motionLaw_iff hrun).mp hlaw i hk
  obtain ⟨hoffered, hothers, n, hsingle, hbody⟩ := crusherLockout_tells (ev := Ev.of (inputTaken (s.reach d) i true)) (i := i)
    (x := s.slots.get i) (by rw [crusher_inputTaken]; exact hfits) (by rw [slot_inputTaken]) hnone (by rw [slot_inputTaken]; exact hf)
    (by rw [feeder_inputTaken]; exact hfree) (fun n hn => absurd hn List.not_mem_nil)
  have hlinked : OnLinked (assertedAt s i d).s i (fun g => g.inhibits.lockout = true ∧ g.r = 0) := onLinked_asserted hfeed
  have hcp : ((assertedAt s i d).slot i).cp.linkedFeeder = some f := by rw [ht.cp, slot_inputTaken]; exact hf
  have hzero : ((assertedAt s i d).feeder f).r = 0 := (hlinked f hcp).2
  have hlen : (assertedAt s i d).notices.length ≤ 8 := by
    have hsplit := List.length_eq_length_filter_add (l := (assertedAt s i d).notices) (·.isFeederState f)
    rw [crusher_inputTaken] at hothers
    rw [show (assertedAt s i d).notices.filter (·.isFeederState f) = [n] from hsingle, List.length_singleton] at hsplit
    have hcount : (others f (assertedAt s i d)).length ≤ 0 + (1 + (s.slots.get i).crusher.queue.length) := hothers
    unfold others at hcount
    omega
  have hjoined := commit_notices (ev := assertedAt s i d) (p := q) (ht.phase.trans hrun) ((ht.enabled q).trans hon)
    (by rw [ht.ports]; exact hsubs) (fun n hn => hoffered n hn q) (by
      rw [ht.ports]
      show (s.ports.get q).notices.length + _ ≤ 16
      omega)
  refine ⟨n, ?_, .raised .lockout, ?_⟩
  · rw [hjoined, List.filter_append, show (assertedAt s i d).notices.filter (·.isFeederState f) = [n] from hsingle, ht.ports]
    rfl
  · rw [slot_commit, hbody]
    show NoticeBody.feederState _ _ ((assertedAt s i d).feeder f).r _ = _
    rw [hzero]
    rfl

end

/-! ### The release of a crusher's lockout (R54, R74) -/

section
variable {s : State} {i : SlotId} {d : Nat}

/-- The event of a lockout that releases at a crusher. -/
def releasedAt (s : State) (i : SlotId) (d : Nat) : Ev := (Ev.of (inputTaken (s.reach d) i false)).crusherUnlock i

/-- LOCKOUT is lowered on the linked feeder. -/
def unlockedAt (s : State) (i : SlotId) (d : Nat) : Ev := (Ev.of (inputTaken (s.reach d) i false)).lowerLinked i .lockout

theorem exec_released (hrun : s.phase = .running) (hk : (s.slots.get i).kind.isCrusher = true)
    (hin : (s.slots.get i).lockout = ⟨false, true, some d⟩) : exec (.debounceExpiry (.lockout i)) s = .next (releasedAt s i d).commit := by
  rw [exec_lockout (b := false) hrun hin]
  exact congrArg (fun ev : Ev => Host.Outcome.next ev.commit) (if_pos (by rw [slot_inputTaken]; exact hk))

theorem tended_released : Tended i (Ev.of (inputTaken (s.reach d) i false)) (releasedAt s i d) := (Tended.refl ..).crusherUnlock

theorem slot_unlockedAt : ∃ f, (unlockedAt s i d).slot i = { s.slots.get i with lockout := ⟨false, false, none⟩, feeder := f } := by
  obtain ⟨f, hf⟩ := lowerLinked_slot (ev := Ev.of (inputTaken (s.reach d) i false)) (i := i) .lockout i
  exact ⟨f, by rw [unlockedAt, hf, slot_inputTaken]⟩

theorem releasedAt_eq (s : State) (i : SlotId) (d : Nat) : releasedAt s i d =
    (if ((unlockedAt s i d).crusher i).motion = .relief ∧ ((unlockedAt s i d).crusher i).episode.any (·.abandoned) = true
      then (unlockedAt s i d).raiseLinked i .relief else unlockedAt s i d).check i := rfl

/-- An abandoned episode raises RELIEF again. -/
theorem releasedAt_relief (hlaw : MotionLaw s) (hrun : s.phase = .running) (hk : (s.slots.get i).kind.isCrusher = true)
    (hlock : (s.slots.get i).lockout.state = true) (hm : (s.slots.get i).crusher.motion = .relief) :
    releasedAt s i d = (unlockedAt s i d).raiseLinked i .relief := by
  obtain ⟨f, hf⟩ := slot_unlockedAt (s := s) (i := i) (d := d)
  have hfits := (motionLaw_iff hrun).mp hlaw i hk
  have hopen : (s.slots.get i).crusher.episode.isSome = true := by
    have hcoherent := hfits.coherent
    unfold MotionCoherent at hcoherent
    rw [hm] at hcoherent
    exact hcoherent.2
  obtain ⟨e, he⟩ := Option.isSome_iff_exists.mp hopen
  have habandoned : e.abandoned = true := by
    rcases hfits.locked hlock with ⟨-, -, hall⟩ | hidle | ⟨b, hblocked⟩
    · exact hall e he
    · rw [hm] at hidle; cases hidle
    · rw [hm] at hblocked; cases hblocked
  have hstands : ((unlockedAt s i d).crusher i).motion = .relief ∧ ((unlockedAt s i d).crusher i).episode.any (·.abandoned) = true := by
    rw [Ev.crusher, hf]
    exact ⟨hm, by simp [he, habandoned]⟩
  have hbusy : (((unlockedAt s i d).raiseLinked i .relief).slot i).crusher.motion ≠ .idle := by
    obtain ⟨g, hg⟩ := raiseLinked_slot (ev := unlockedAt s i d) (i := i) .relief i
    rw [hg, hf]
    show (s.slots.get i).crusher.motion ≠ .idle
    rw [hm]
    exact Motion.noConfusion
  rw [releasedAt_eq, if_pos hstands, check_busy _ _ _ hbusy]

theorem releasedAt_other (hm : (s.slots.get i).crusher.motion ≠ .relief) : releasedAt s i d = (unlockedAt s i d).check i := by
  obtain ⟨f, hf⟩ := slot_unlockedAt (s := s) (i := i) (d := d)
  have hother : ¬ (((unlockedAt s i d).crusher i).motion = .relief ∧ ((unlockedAt s i d).crusher i).episode.any (·.abandoned) = true) := by
    rw [Ev.crusher, hf]
    exact fun h => hm h.1
  rw [releasedAt_eq, if_neg hother]

/-- LOCKOUT is off the linked feeder, whatever the start check starts. -/
theorem onLinked_released : OnLinked (releasedAt s i d).s i (fun f => f.inhibits.lockout = false) := by
  have hlowered : OnLinked (unlockedAt s i d).s i (fun f => f.inhibits.mem .lockout = false) := onLinked_lowerLinked _ i _
  have hleaves : Leaves .lockout (unlockedAt s i d) (releasedAt s i d) :=
    Leaves.check (((Leaves.refl _ _).raiseLinked i (by decide)).ite (Leaves.refl _ _)) (by decide) (by decide) i true
  have hcp : ((releasedAt s i d).slot i).cp = ((unlockedAt s i d).slot i).cp := by
    obtain ⟨f, hf⟩ := slot_unlockedAt (s := s) (i := i) (d := d)
    rw [tended_released.cp, slot_inputTaken, hf]
  exact hleaves.onLinked hcp hlowered

theorem onLinked_released_relief (hlaw : MotionLaw s) (hfeed : FeedLaw s) (hrun : s.phase = .running)
    (hk : (s.slots.get i).kind.isCrusher = true) (hlock : (s.slots.get i).lockout.state = true)
    (hm : (s.slots.get i).crusher.motion = .relief) :
    OnLinked (releasedAt s i d).s i (fun f => f.inhibits.relief = true ∧ f.r = 0) := by
  intro f hf
  have hraised : ((releasedAt s i d).feeder f).inhibits.mem .relief = true := by
    rw [releasedAt_relief hlaw hrun hk hlock hm] at hf ⊢
    exact onLinked_raiseLinked _ i _ f hf
  have hfed : FedOk ((releasedAt s i d).feeder f) :=
    tended_released.fed f (by rw [feeder_inputTaken]; exact fedOk_of_feedLaw hfeed f)
  exact ⟨hraised, hfed.off hraised⟩

theorem relief_released (hm : (s.slots.get i).crusher.motion ≠ .relief) (f : SlotId) :
    ((releasedAt s i d).feeder f).inhibits.relief = (s.slots.get f).feeder.inhibits.relief := by
  have hleaves : Leaves .relief (Ev.of (inputTaken (s.reach d) i false)) ((unlockedAt s i d).check i) :=
    ((Leaves.refl _ _).lowerLinked i (by decide)).check (by decide) (by decide) i true
  rw [releasedAt_other hm]
  have h := hleaves f
  rw [feeder_inputTaken] at h
  exact h

/-- With nothing to start the crusher and its driver stand. -/
theorem slot_released_still (hlaw : MotionLaw s) (hrun : s.phase = .running) (hk : (s.slots.get i).kind.isCrusher = true)
    (hlock : (s.slots.get i).lockout.state = true) (hstill : NothingToStart (s.slots.get i)) :
    ((releasedAt s i d).slot i).crusher = (s.slots.get i).crusher ∧ ((releasedAt s i d).slot i).driver = (s.slots.get i).driver := by
  obtain ⟨f, hf⟩ := slot_unlockedAt (s := s) (i := i) (d := d)
  by_cases hm : (s.slots.get i).crusher.motion = .relief
  · obtain ⟨g, hg⟩ := raiseLinked_slot (ev := unlockedAt s i d) (i := i) .relief i
    rw [releasedAt_relief hlaw hrun hk hlock hm, hg, hf]
    exact ⟨rfl, rfl⟩
  · have hcheck : (unlockedAt s i d).check i = unlockedAt s i d := by
      rcases hstill with hbusy | ⟨hqueue, hblock, htrim⟩
      · exact check_busy _ _ _ (by rw [hf]; exact hbusy)
      · exact check_nothing (by rw [hf]; exact hqueue) (by rw [hf]; exact hblock) (by rw [hf]; exact htrim) true
    rw [releasedAt_other hm, hcheck, hf]
    exact ⟨rfl, rfl⟩

end

/-! ### What the law says of a crusher locked out (R54, R74) -/

/-- It carries no move and no calibration, and its episode, if one stands, is abandoned. -/
theorem Fits.lockedOut {x : Slot} {c : Crusher} (h : Fits x c) (hlock : x.lockout.state = true) : c.move = none ∧ c.cal = none
    ∧ (c.motion = .relief → ∃ e ∈ c.episode, e.abandoned = true) ∧ (c.motion ≠ .relief → c.episode = none) := by
  have hcoherent := h.coherent
  unfold MotionCoherent at hcoherent
  rcases h.locked hlock with ⟨hm, hmove, hall⟩ | hm | ⟨b, hm⟩ <;> rw [hm] at hcoherent
  · obtain ⟨hcal, hopen⟩ := hcoherent
    obtain ⟨e, he⟩ := Option.isSome_iff_exists.mp hopen
    exact ⟨hmove, hcal, fun _ => ⟨e, he, hall e he⟩, fun hother => absurd hm hother⟩
  · obtain ⟨hmove, hcal, hepisode⟩ := hcoherent
    exact ⟨hmove, hcal, fun hrelief => absurd (hm.symm.trans hrelief) Motion.noConfusion, fun _ => hepisode⟩
  · obtain ⟨hmove, hcal, hepisode, -⟩ := hcoherent
    exact ⟨hmove, hcal, fun hrelief => absurd (hm.symm.trans hrelief) Motion.noConfusion, fun _ => hepisode⟩

/-! ### A feeder's own lockout (R106) -/

/-- An event that raises notices alone. -/
theorem commit_told (ev : Ev) (hp : ev.s.phase = .running) (hr : ev.replies = []) : ev.commit = ev.s.announce ev.notices := by
  unfold Ev.commit State.announce
  rw [if_pos hp, hr]
  dsimp only
  congr 1
  refine PerPort.ext_get (fun q => ?_)
  rw [PerPort.get_of, PerPort.get_of]
  cases h : ev.s.enabled q with
  | true => exact deliver_noReplies ..
  | false => rfl

/-- A feeder enters STOPPED from another run state, and its notice tells so (R100, R117). -/
theorem enterRun_stopped {ev : Ev} {i : SlotId} (c : FeederCause) (h : (ev.feeder i).run ≠ .stopped) (hn : ev.notices = []) :
    ev.enterRun i .stopped c = (ev.modFeeder i (·.enter .stopped none none)).notify (some i)
      (.feederState .stopped (ev.feeder i).inhibits 0 c) := by
  unfold Ev.enterRun
  dsimp only
  rw [if_neg h, Ev.mergedNotice_first _ _ _ (by
    show ev.notices.any _ = false
    rw [hn]; rfl), Ev.feederNotice]
  have hfeeder : (ev.modFeeder i (·.enter .stopped none none)).feeder i = (ev.feeder i).enter .stopped none none := by
    rw [Ev.feeder, Ev.modFeeder, slot_modSlot]; rfl
  rw [hfeeder]
  rfl

section
variable {s : State} {i : SlotId} {d : Nat}

theorem lockoutAsserted_feeder {ev : Ev} (h : (ev.slot i).kind = .feeder) :
    ev.lockoutAsserted i = if (ev.feeder i).run = .stopped then ev else ev.enterRun i .stopped .lockout := by
  unfold Ev.lockoutAsserted
  rw [h]

theorem exec_feeder_stopped (hrun : s.phase = .running) (hk : (s.slots.get i).kind = .feeder)
    (hin : (s.slots.get i).lockout = ⟨true, false, some d⟩) (hstopped : (s.slots.get i).feeder.run = .stopped) :
    exec (.debounceExpiry (.lockout i)) s = .next (inputTaken (s.reach d) i true) := by
  have hstays : (Ev.of (inputTaken (s.reach d) i true)).lockoutAsserted i = Ev.of (inputTaken (s.reach d) i true) := by
    rw [lockoutAsserted_feeder (by rw [slot_inputTaken]; exact hk), if_pos (by rw [feeder_inputTaken]; exact hstopped)]
  rw [exec_lockout (b := true) hrun hin]
  show Host.Outcome.next (Ev.commit ((Ev.of (inputTaken (s.reach d) i true)).lockoutAsserted i)) = _
  rw [hstays, Ev.commit_silent _ rfl rfl]
  rfl

/-- A feeder that is not STOPPED goes there, and its notice tells so. -/
theorem exec_feeder_stops (hrun : s.phase = .running) (hk : (s.slots.get i).kind = .feeder)
    (hin : (s.slots.get i).lockout = ⟨true, false, some d⟩) (hgoes : (s.slots.get i).feeder.run ≠ .stopped) :
    exec (.debounceExpiry (.lockout i)) s = .next (((inputTaken (s.reach d) i true).modSlot i (fun x => { x with feeder :=
      { (s.slots.get i).feeder with run := .stopped, r := 0, rPrev := 0, seed := true, regTimer := none, confirmTimer := none } })).announce
      [⟨max s.clock d / 1000, some i, .feederState .stopped (s.slots.get i).feeder.inhibits 0 .lockout⟩]) := by
  have hgoes' : ((Ev.of (inputTaken (s.reach d) i true)).feeder i).run ≠ .stopped := by rw [feeder_inputTaken]; exact hgoes
  have hstops := (lockoutAsserted_feeder (i := i) (by rw [slot_inputTaken]; exact hk)).trans
    ((if_neg hgoes').trans (enterRun_stopped .lockout hgoes' rfl))
  have hfeeder : (Ev.of (inputTaken (s.reach d) i true)).modFeeder i (·.enter .stopped none none) =
      (Ev.of (inputTaken (s.reach d) i true)).modSlot i (fun x => { x with feeder :=
        { (s.slots.get i).feeder with run := .stopped, r := 0, rPrev := 0, seed := true, regTimer := none, confirmTimer := none } }) :=
    evModSlot_congr (by rw [slot_inputTaken]; rfl)
  rw [exec_lockout (b := true) hrun hin]
  show Host.Outcome.next (Ev.commit ((Ev.of (inputTaken (s.reach d) i true)).lockoutAsserted i)) = _
  rw [hstops, commit_told _ hrun rfl, feeder_inputTaken, hfeeder]
  rfl

theorem exec_feeder_released (hrun : s.phase = .running) (hk : (s.slots.get i).kind = .feeder)
    (hin : (s.slots.get i).lockout = ⟨false, true, some d⟩) :
    exec (.debounceExpiry (.lockout i)) s = .next (inputTaken (s.reach d) i false) := by
  have hstays : (Ev.of (inputTaken (s.reach d) i false)).lockoutReleased i = Ev.of (inputTaken (s.reach d) i false) :=
    if_neg (by rw [slot_inputTaken]; simp [hk, Kind.isCrusher])
  rw [exec_lockout (b := false) hrun hin]
  show Host.Outcome.next (Ev.commit ((Ev.of (inputTaken (s.reach d) i false)).lockoutReleased i)) = _
  rw [hstays, Ev.commit_silent _ rfl rfl]
  rfl

end

/-- Settles O26: the crusher's lockout ends its work and locks the linked feeder, its release is a start check, and a feeder's lockout
stops the feeder. -/
theorem lockoutEndsMotionWork : Obligations.LockoutEndsMotionWork := by
  unfold Obligations.LockoutEndsMotionWork
  refine ⟨fun s i d hlaw hfeed hrun hk => ⟨fun hin => ?asserts, fun hin => ?releases⟩,
    fun s i d hrun hk => ⟨fun hin => ⟨?_, ?_⟩, fun hin => ?_⟩⟩
  case asserts =>
    have hfits := (motionLaw_iff hrun).mp hlaw i hk
    have hended := fits_asserted (d := d) hlaw hrun hk
    obtain ⟨hholds, hqueue, hrestart, htf, hstack, hw, hhistory, hmotion⟩ := slot_crusherLockout
      (ev := Ev.of (inputTaken (s.reach d) i true)) (i := i) (x := s.slots.get i) (by rw [crusher_inputTaken]; exact hfits)
      (by rw [slot_inputTaken])
    rw [crusher_inputTaken] at htf hstack hw hhistory hmotion
    refine ⟨_, exec_asserted hrun hk hin, ?_, ?_, ?_, ?_, (onLinked_commit ..).mpr (onLinked_asserted hfeed), fun hnone => ?_,
      fun f q hf hfree hnone hlen hon hsubs hroom => notice_asserted hlaw hfeed hrun hk hf hfree hnone hlen hon hsubs hroom⟩
    · rw [slot_commit]; exact lockout_asserted
    · rw [slot_commit]; exact hholds.1
    · rw [slot_commit]; exact hholds.2
    · obtain ⟨hmove, hcal, hrelief, hclosed⟩ := hended.lockedOut (by rw [lockout_asserted])
      rw [slot_commit]
      refine ⟨hmove, hcal, hqueue, hrestart, htf, hstack, hw, hhistory, ?_, fun hm => hrelief ?_, fun hm => hclosed ?_⟩
      · refine hmotion.trans ?_
        cases (s.slots.get i).crusher.motion <;> simp [endedMotion]
      · refine hmotion.trans ?_
        rw [hm]; rfl
      · have hends : ((assertedAt s i d).crusher i).motion = _ := hmotion
        rw [hends, hm]
        split <;> exact Motion.noConfusion
    · exact onlyCrusher_inputTaken tended_asserted hnone
  case releases =>
    have hlock : (s.slots.get i).lockout.state = true := by rw [hin]
    refine ⟨_, exec_released hrun hk hin, ?_, (onLinked_commit ..).mpr onLinked_released,
      fun hm => (onLinked_commit ..).mpr (onLinked_released_relief hlaw hfeed hrun hk hlock hm), fun hm f _ => ?_, fun hstill => ?_,
      fun hnone => onlyCrusher_inputTaken tended_released hnone⟩
    · rw [slot_commit, tended_released.lockout, slot_inputTaken]
    · rw [slot_commit]; exact relief_released hm f
    · rw [slot_commit]; exact slot_released_still hlaw hrun hk hlock hstill
  · exact exec_feeder_stopped hrun hk hin
  · exact exec_feeder_stops hrun hk hin
  · exact exec_feeder_released hrun hk hin

end Sys2Proof.Proofs
end
